-- ==== Sys2Proof/Word.lean ====
section
/-! DEFINITION. The word types of the Batoril 3140: bytes, table words, 32-bit counts and the 48-bit
Link Time (00_scope.md 4.2; R9, R14), and the plain-data form of every addressed table. -/

namespace Sys2Proof

/-- A byte: eight bits (00_scope.md 4.2). -/
abbrev Byte := BitVec 8

/-- A word: sixteen bits (00_scope.md 4.2). -/
abbrev Word := BitVec 16

/-- A 32-bit count: a counter that holds at 4294967295 (R9, R35), or a record serial (R112). -/
abbrev Count := BitVec 32

/-- Link Time: a 48-bit count of microseconds (R14). -/
abbrev Micros := BitVec 48

/-- An addressed table held as a list of (index, value) pairs in one canonical form: indices strictly
rising, and no pair whose value is what an unlisted index reads as. Machine/Cells.lean reads and
writes it. -/
abbrev Cells (α : Type) := List (Nat × α)

end Sys2Proof
end

