-- ==== Sys2Proof/Syntax.lean ====
section
/-! DEFINITION. The commands of the block: one constructor of `Instr` for each row of
spec/opcode_table.json. A row is one event at one block of the bridge (00_scope.md 4.5); its
operands are what the outside decides at that event: the port, the bytes received, a pin's level,
the outcome the store array gives. Requests have two events, the intake at the Management Agent
(R177) and, for a request of another block, the event at its owner (R179): `Stage` says which. -/

namespace Sys2Proof

/-- The two link ports (00_scope.md 3.1). -/
inductive Port where
  | U
  | D
  deriving DecidableEq, Repr

/-- The four line conditions a receiver tells apart (1.4). -/
inductive LineCond where
  | idle
  | data
  | invalid
  | silence
  deriving DecidableEq, Repr

/-- What breaks a run of data off before an idle symbol (R8). -/
inductive RunBreak where
  | invalid
  | silence
  deriving DecidableEq, Repr

/-- The blocks that read a part of a STATUS (R187). -/
inductive StatusBlock where
  | timeBase
  | port (p : Port)
  | capture
  | store
  deriving DecidableEq, Repr

/-- The blocks that keep counters (R188). -/
inductive CounterBlock where
  | port (p : Port)
  | classifier
  | trigger
  deriving DecidableEq, Repr

/-- The two events of a request that another block owns: its intake at the Agent on the arrival port
(R177), and its event at the owner (R179). -/
inductive Stage where
  | intake (p : Port)
  | owner
  deriving DecidableEq, Repr

/-- The requests, by name (11.2). -/
inductive ReqKind where
  | identify
  | status
  | counters
  | countersClear
  | restart
  | openSession
  | closeSession
  | alertAck
  | tuneWrite
  | tuneRead
  | windowSet
  | windowRead
  | pageRead
  | storeProgram
  | storeErase
  | storeLock
  | storeUnlockErase
  | storeAbort
  | storeClearFault
  | storeStatus
  | captureArm
  | captureStop
  | captureClear
  | captureMode
  | captureMark
  | readNext
  | readBlock
  | readSlot
  | setReadCursor
  deriving DecidableEq, Repr

/-- The commands. The docstring of each names its row of the table and the rule the row gives. -/
inductive Instr where
  /-- POR (R174): the STORE_GUARD level and the strap as start-up reads them, and the bit times that
  steps 1 to 3 of start-up took. -/
  | por (guard : Bool) (strap : BitVec 2) (took : Nat)
  /-- FRAME_ARRIVAL (R6): the bytes of a complete run at a port. -/
  | frameArrival (p : Port) (run : List Byte)
  /-- RUN_BROKEN_OFF (R8). -/
  | runBrokenOff (p : Port) (how : RunBreak)
  /-- LINK_UP (R10). -/
  | linkUp (p : Port)
  /-- LINK_DOWN (R11). -/
  | linkDown (p : Port)
  /-- SYNC_LOSS_EXPIRY (R16). -/
  | syncLossExpiry
  /-- LOOKUP (R19) of the frame that waits at a port. -/
  | lookup (p : Port)
  /-- SUMMARY_ARRIVAL (R69). -/
  | summaryArrival
  /-- EVALUATION (R90). -/
  | evaluation
  /-- RECORD_REQUEST_ARRIVAL (R119). -/
  | recordRequestArrival
  /-- ARM_NOTICE (R86). -/
  | armNotice
  /-- STOP_NOTICE (R87). -/
  | stopNotice
  /-- CLEAR_NOTICE (R87). -/
  | clearNotice
  /-- TX_COMPLETE (R31). -/
  | txComplete (p : Port)
  /-- UNKNOWN_REQUEST (R177): the intake of a request whose code is none of 11.2's. -/
  | unknownRequest (p : Port)
  /-- IDENTIFY (R186). -/
  | identify (p : Port)
  /-- STATUS (R187). -/
  | status (p : Port)
  /-- STATUS_PART_READ (R187). -/
  | statusPartRead (b : StatusBlock)
  /-- COUNTERS (R188). -/
  | counters (p : Port)
  /-- COUNTERS_PART_READ (R197). -/
  | countersPartRead (b : CounterBlock)
  /-- COUNTERS_CLEAR (R188). -/
  | countersClear (p : Port)
  /-- COUNTERS_PART_CLEAR (R188). -/
  | countersPartClear (b : CounterBlock)
  /-- RESTART (R193): the strap as the reload reads it. -/
  | restart (p : Port) (strap : BitVec 2)
  /-- EGRESS_RESTART (R26) of one port's egress side. -/
  | egressRestart (p : Port)
  /-- CLASSIFIER_RESTART (R65). -/
  | classifierRestart
  /-- RESOLVER_RESTART (R55). -/
  | resolverRestart
  /-- TRIGGER_RESTART (R88). -/
  | triggerRestart
  /-- CAPTURE_RESTART (R131). -/
  | captureRestart
  /-- TIME_BASE_RESTART (R17). -/
  | timeBaseRestart
  /-- AUTOSTART (R194). -/
  | autostart
  /-- OPEN_SESSION (R183). -/
  | openSession (p : Port)
  /-- CLOSE_SESSION (R184). -/
  | closeSession (p : Port)
  /-- SESSION_EXPIRY (R184). -/
  | sessionExpiry
  /-- ALERT_ACK (R191). -/
  | alertAck (p : Port)
  /-- ALERT_SEND (R190). -/
  | alertSend
  /-- ACK_TIMER_EXPIRY (R191). -/
  | ackTimerExpiry
  /-- AGENT_GUARD_FALL (R185). -/
  | agentGuardFall
  /-- AGENT_GUARD_RISE (R185). -/
  | agentGuardRise
  /-- TUNE_WRITE (R47). -/
  | tuneWrite (st : Stage)
  /-- TUNE_READ (R49). -/
  | tuneRead (st : Stage)
  /-- WINDOW_SET (R50). -/
  | windowSet (st : Stage)
  /-- WINDOW_READ (R52). -/
  | windowRead (st : Stage)
  /-- PAGE_READ (R53). -/
  | pageRead (st : Stage)
  /-- STORE_PROGRAM (R159). -/
  | storeProgram (st : Stage)
  /-- STORE_ERASE (R161). -/
  | storeErase (st : Stage)
  /-- STORE_LOCK (R162). -/
  | storeLock (st : Stage)
  /-- STORE_UNLOCK_ERASE (R163). -/
  | storeUnlockErase (st : Stage)
  /-- STORE_ABORT (R164). -/
  | storeAbort (st : Stage)
  /-- STORE_CLEAR_FAULT (R165). -/
  | storeClearFault (st : Stage)
  /-- STORE_STATUS (R166). -/
  | storeStatus (st : Stage)
  /-- PROGRAM_ERASING_COMPLETE (R154). -/
  | programErasingComplete
  /-- WRITING_COMPLETE (R154). -/
  | writingComplete
  /-- VERIFY_COMPLETE (R160): whether the store array held the words written to it. -/
  | verifyComplete (held : Bool)
  /-- ERASE_COMPLETE (R161): whether the store array's erase succeeded. -/
  | eraseComplete (succeeded : Bool)
  /-- LOCK_COMPLETE (R162). -/
  | lockComplete
  /-- STORE_GUARD_FALL (R167). -/
  | storeGuardFall
  /-- STORE_GUARD_RISE (R167). -/
  | storeGuardRise
  /-- CAPTURE_ARM (R122). -/
  | captureArm (st : Stage)
  /-- CAPTURE_STOP (R123). -/
  | captureStop (st : Stage)
  /-- CAPTURE_CLEAR (R124). -/
  | captureClear (st : Stage)
  /-- CAPTURE_MODE (R125). -/
  | captureMode (st : Stage)
  /-- CAPTURE_MARK (R126). -/
  | captureMark (st : Stage)
  /-- READ_NEXT (R135). -/
  | readNext (st : Stage)
  /-- READ_BLOCK (R136). -/
  | readBlock (st : Stage)
  /-- READ_SLOT (R141). -/
  | readSlot (st : Stage)
  /-- SET_READ_CURSOR (R142). -/
  | setReadCursor (st : Stage)
  /-- POWER_LOSS (R172). -/
  | powerLoss
  /-- LINE_CONDITION_CHANGE (R10). -/
  | lineConditionChange (p : Port) (c : LineCond)
  deriving DecidableEq, Repr

end Sys2Proof
end

