-- ==== Sys2Proof/Decode.lean ====
section
/-! DEFINITION. Decoding. The rows of spec/opcode_table.json give no bits, so no word spells a command
(log entry 2). What the block does decode is the request code of a MGMT-REQ payload (11.2). -/

namespace Sys2Proof

/-- The command that a word of table bits spells: none, since no row of the table gives bits. -/
def decodeTableWord (_nbits _w : Nat) : Option Instr := none

/-- The request a code names (11.2), or none. -/
def ReqKind.ofCode (c : Byte) : Option ReqKind :=
  match c.toNat with
  | 0x01 => some .identify
  | 0x02 => some .status
  | 0x03 => some .counters
  | 0x04 => some .countersClear
  | 0x05 => some .restart
  | 0x06 => some .openSession
  | 0x07 => some .closeSession
  | 0x08 => some .alertAck
  | 0x10 => some .tuneWrite
  | 0x11 => some .tuneRead
  | 0x12 => some .windowSet
  | 0x13 => some .windowRead
  | 0x14 => some .pageRead
  | 0x20 => some .storeProgram
  | 0x21 => some .storeErase
  | 0x22 => some .storeLock
  | 0x23 => some .storeUnlockErase
  | 0x24 => some .storeAbort
  | 0x25 => some .storeClearFault
  | 0x26 => some .storeStatus
  | 0x30 => some .captureArm
  | 0x31 => some .captureStop
  | 0x32 => some .captureClear
  | 0x33 => some .captureMode
  | 0x34 => some .captureMark
  | 0x38 => some .readNext
  | 0x39 => some .readBlock
  | 0x3A => some .readSlot
  | 0x3B => some .setReadCursor
  | _ => none

/-- The code of a request (11.2). -/
def ReqKind.code : ReqKind → Byte
  | .identify => 0x01
  | .status => 0x02
  | .counters => 0x03
  | .countersClear => 0x04
  | .restart => 0x05
  | .openSession => 0x06
  | .closeSession => 0x07
  | .alertAck => 0x08
  | .tuneWrite => 0x10
  | .tuneRead => 0x11
  | .windowSet => 0x12
  | .windowRead => 0x13
  | .pageRead => 0x14
  | .storeProgram => 0x20
  | .storeErase => 0x21
  | .storeLock => 0x22
  | .storeUnlockErase => 0x23
  | .storeAbort => 0x24
  | .storeClearFault => 0x25
  | .storeStatus => 0x26
  | .captureArm => 0x30
  | .captureStop => 0x31
  | .captureClear => 0x32
  | .captureMode => 0x33
  | .captureMark => 0x34
  | .readNext => 0x38
  | .readBlock => 0x39
  | .readSlot => 0x3A
  | .setReadCursor => 0x3B

/-- Whether a request payload, code included, has a length that is right for its code (11.2). A
TUNE-WRITE's length follows from its own count byte. -/
def ReqKind.lengthRight (k : ReqKind) (payload : List Byte) : Bool :=
  let n := payload.length
  match k with
  | .identify | .status | .countersClear | .restart | .closeSession | .storeAbort | .storeClearFault
  | .storeStatus | .captureStop | .captureClear | .readNext => n == 1
  | .counters | .openSession | .alertAck | .windowRead | .storeErase | .storeLock | .storeUnlockErase
  | .captureMode | .readBlock => n == 2
  | .readSlot | .setReadCursor => n == 3
  | .tuneRead | .pageRead => n == 4
  | .windowSet | .storeProgram => n == 5
  | .captureArm => n == 1 || n == 3
  | .captureMark => 2 ≤ n && n ≤ 13
  | .tuneWrite => 4 ≤ n && n == 4 + 2 * (payload.getD 3 0).toNat

/-- The request a payload carries: none when it is too short to hold a code or the code names no
request (R177 step 2). -/
def ReqKind.ofPayload : List Byte → Option ReqKind
  | [] => none
  | c :: _ => ReqKind.ofCode c

end Sys2Proof
end

