-- ==== Sys2Proof/Config.lean ====
section
/-! DEFINITION. The fixed numbers of the Batoril 3140 ("Numbers Used Throughout", 00_scope.md) and
the free values: bytes of a reply whose value the spec does not state (log entry 12). -/

namespace Sys2Proof.Config

/-- Bit times in one microsecond: 25 Mbit/s (00_scope.md 3.1). One bit time, 0.04 µs, is the unit in
which the model counts every duration (log entry 3). -/
def bitsPerMicro : Nat := 25

/-- Bit times in one millisecond. -/
def bitsPerMilli : Nat := 25000

/-- Bit times in one second. -/
def bitsPerSecond : Nat := 25000000

/-- Continuous valid idle that makes a port LINK-UP: 200 µs (R10). -/
def linkUpWait : Nat := 200 * bitsPerMicro

/-- Silence that makes a port LINK-DOWN: 50 µs (R11). -/
def linkDownWait : Nat := 50 * bitsPerMicro

/-- The sync-loss timer: 2 s (R16). -/
def syncLossWait : Nat := 2 * bitsPerSecond

/-- The ack timer: 1 s (R190). -/
def ackWait : Nat := bitsPerSecond

/-- Wire time of a frame of `b` bytes: 0.32 µs a byte and a gap of 0.64 µs (R31). -/
def wireTime (b : Nat) : Nat := 8 * b + 16

/-- Frames a Transit Queue holds (R24). -/
def transitRoom : Nat := 8

/-- Frames a Reply Queue holds (R180). -/
def replyRoom : Nat := 8

/-- The passover limit of the Egress Arbiter (R29). -/
def passoverLimit : Nat := 3

/-- Summaries the Summary Queue holds (R69). -/
def summaryRoom : Nat := 16

/-- The last slot of the Capture Ring (R109). -/
def lastSlot : Nat := 1023

/-- The most unread records (R111). -/
def unreadMax : Nat := 1022

/-- The unread count at or below which a FULL capture resumes (R120). -/
def resumeAt : Nat := 1006

/-- Entries of the Retry Cache (R181). -/
def cacheRoom : Nat := 4

/-- Words a TUNE-WRITE, TUNE-READ or PAGE-READ carries at most (R47, R49, R53). -/
def maxWords : Nat := 28

/-- The values of reply bytes that a layout of 11.5 names and whose value the spec does not state
(log entry 12): the k-th such byte sent. Opaque: nothing can be proved of it. -/
opaque freeByte : Nat → Byte

/-- The same for a field that holds yes or no (log entry 12). -/
opaque freeFlag : Nat → Bool

end Sys2Proof.Config
end

