-- ==== Sys2Proof/Machine/State.lean ====
section
/-! DEFINITION. Everything the Batoril 3140 holds, as plain data, block by block (00_scope.md 2.2), the
queue of waiting commands, and the state after reset. Every addressed table is a `Cells`: an entry that
is not listed reads as the table's reset value, which the field's docstring names. -/

namespace Sys2Proof.Machine

/-! ### Frames and the link (chapter 1) -/

/-- The five legal frame kinds (R1). -/
inductive FrameKind where
  | data
  | sync
  | mgmtReq
  | mgmtRsp
  | alert
  deriving DecidableEq, Repr

/-- An accepted or originated frame, field by field (R1). The length field is the payload's length,
which R6 step 4 makes so. -/
structure Frame where
  dst : Byte
  src : Byte
  kind : FrameKind
  seq : Byte
  payload : List Byte
  check : Word
  deriving DecidableEq, Repr

/-- A stamp: Link Time and the synced flag at one event (R7, R14). -/
structure Stamp where
  time : Micros
  synced : Bool
  deriving DecidableEq, Repr

/-- An accepted frame that waits for its lookup, with its arrival stamp (R7). -/
structure Accepted where
  frame : Frame
  stamp : Stamp
  deriving DecidableEq, Repr

/-- The two link states (R10, R11). -/
inductive LinkState where
  | down
  | up
  deriving DecidableEq, Repr

/-- A frame of a Reply Queue. `survives` is how many RESTART events of its port's egress side it
outlives: 0 for every frame but the OK reply of RESTART (R26, R193; log entry 11). -/
structure Reply where
  frame : Frame
  survives : Nat
  deriving DecidableEq, Repr

/-- The frame in transmission, whether it came from the Reply Queue, and the bit times left until
transmission completion (R31, R33). -/
structure Sending where
  frame : Frame
  fromReply : Bool
  left : Nat
  deriving DecidableEq, Repr

/-- A request handed to the Agent (R19, R20): its arrival port, requester, sequence and payload. -/
structure Request where
  port : Port
  source : Byte
  seq : Byte
  payload : List Byte
  deriving DecidableEq, Repr

/-- One port: its link, its receiver, its egress side, its Reply Queue with the Agent's reservation,
and its eight counters (R5 to R13, R24 to R35, R180). -/
structure PortState where
  /-- The link state; LINK-DOWN after POR (R13). -/
  link : LinkState
  /-- The line condition the receiver sees (1.4). -/
  line : LineCond
  /-- After a broken-off run the receiver ignores data until it sees an idle symbol (R8). -/
  awaitIdle : Bool
  /-- Bit times left of the link measurement that runs, valid idle in LINK-DOWN and silence in
  LINK-UP; none while none runs (1.6). -/
  measure : Option Nat
  /-- The accepted frame that waits for its lookup, if any (R7). -/
  accepted : Option Accepted
  /-- The request handed to the Agent that waits for its intake, if any (R177). -/
  request : Option Request
  /-- The Transit Queue that feeds this port, head first (R24). -/
  transit : List Frame
  /-- The Reply Queue of this port, head first (R27). -/
  reply : List Reply
  /-- The frame in transmission: SENDING while there is one, IDLE otherwise (R31). -/
  sending : Option Sending
  /-- The passover count 0..3 (R29). -/
  passover : Nat
  /-- Frames held back for requests dispatched and not yet answered (R180). -/
  reservation : Nat
  rxGood : Count
  rxCheckErr : Count
  rxFormatErr : Count
  txFrames : Count
  transitDropFull : Count
  transitDropDown : Count
  replyLost : Count
  requestDrop : Count
  deriving DecidableEq, Repr

/-- The Time Base (R14 to R17). -/
structure TimeBase where
  /-- Link Time (R14). -/
  linkTime : Micros
  /-- Bit times of the current microsecond that have passed, 0..24 (log entry 3). -/
  sub : Nat
  /-- The synced flag (R15). -/
  synced : Bool
  /-- Bit times left on the sync-loss timer; none while it does not run (R16). -/
  lossTimer : Option Nat
  /-- The time master taken at the last load (R17). -/
  timeMaster : Option Byte
  deriving DecidableEq, Repr

/-! ### Classifier (chapters 2 and 4) -/

/-- An entry of the Node Location Map (2.2). -/
inductive Side where
  | unknown
  | up
  | down
  deriving DecidableEq, Repr

/-- The Classifier's tables and counters. -/
structure Classifier where
  /-- The Node Location Map, by node 0..126; an unlisted node is UNKNOWN (R22). -/
  nodeMap : Cells Side
  /-- The Node State Table, by node 0..126: the last sequence, or absent, as an unlisted node is (R65). -/
  nodeState : Cells (Option Byte)
  toSelf : Count
  unmatched : Count
  unresolved : Count
  holdDiscard : Count
  /-- The class counts, by class 0..31; an unlisted count is 0 (R71). -/
  classCount : Cells Count
  deriving DecidableEq, Repr

/-! ### Page Resolver and Tuning Memory (chapter 3) -/

/-- A window of the Window Table (R40). -/
structure Window where
  enabled : Bool
  target : Nat
  page : Nat
  deriving DecidableEq, Repr

/-- What every window is after POR: disabled, target 1, tuning page T0 (R40). -/
def Window.atPor : Window := ⟨false, 1, 0⟩

/-- Tuning Memory, the Window Table and the pin marks. -/
structure Resolver where
  /-- Word i of tuning page t at index 256·t + i; an unlisted word is 0 (R39). -/
  tuning : Cells Word
  /-- Windows W0..W3; an unlisted one is `Window.atPor` (R40). -/
  windows : Cells Window
  /-- The pin marks of T0..T3; an unlisted one is clear (R45). -/
  pins : Cells Bool
  deriving DecidableEq, Repr

/-! ### Table Store (chapter 9) -/

/-- The page state (R150). -/
inductive PageState where
  | erased
  | valid
  | invalid
  deriving DecidableEq, Repr

/-- The kinds of store operation (R153). -/
inductive OpKind where
  | program
  | erase
  | unlockErase
  | lock
  deriving DecidableEq, Repr

/-- The phases of an operation (R154). -/
inductive Phase where
  | erasing
  | writing
  | verifying
  | locking
  deriving DecidableEq, Repr

/-- The operation in flight, with its phase and the bit times left of it (R153, R154). -/
structure Operation where
  kind : OpKind
  page : Nat
  source : Option Nat
  phase : Phase
  left : Nat
  deriving DecidableEq, Repr

/-- The fault latch (R155). -/
inductive Latch where
  | none
  | verifyFail
  | eraseFail
  | aborted
  | guardLost
  deriving DecidableEq, Repr

/-- How an operation ended (R156). -/
inductive Ending where
  | done
  | verifyFail
  | eraseFail
  | aborted
  | guardLost
  deriving DecidableEq, Repr

/-- The last-result record (R156). -/
structure LastResult where
  kind : OpKind
  page : Nat
  source : Option Nat
  ending : Ending
  phase : Phase
  time : Micros
  deriving DecidableEq, Repr

/-- The Table Store: the persistent state of pages 0..10, the engine, the fault latch, the last-result
record and the STORE_GUARD level as the store last took it. -/
structure Store where
  /-- Page states; an unlisted page is ERASED, as delivered (R149). -/
  pageState : Cells PageState
  /-- Lock flags; an unlisted page is unlocked (R149). -/
  locked : Cells Bool
  /-- Erase counts; an unlisted page has 0 (R151). -/
  eraseCount : Cells Word
  /-- Word i of store page p at index 256·p + i; an unlisted word is 0. -/
  words : Cells Word
  /-- The operation in flight: BUSY while there is one, READY otherwise (R153). -/
  engine : Option Operation
  latch : Latch
  last : Option LastResult
  guard : Bool
  deriving DecidableEq, Repr

/-! ### Trigger Unit (chapters 5 and 6) -/

/-- The value types of Field Map descriptors (R74). -/
inductive ValueType where
  | u8
  | s8
  | u16
  | s16
  | u24
  | s24
  | u32
  | s32
  deriving DecidableEq, Repr

/-- A typed value: a whole number and the type that produced it (R77). -/
structure Value where
  type : ValueType
  val : Int
  deriving DecidableEq, Repr

/-- The condition kinds (6.3). -/
inductive CondKind where
  | none
  | always
  | every
  | above
  | below
  | change
  | first
  | seqGap
  deriving DecidableEq, Repr

/-- A condition as read from its words (R93): A is signed, B is not. -/
structure Cond where
  kind : CondKind
  field : Nat
  a : Int
  b : Nat
  deriving DecidableEq, Repr

/-- A frame summary (R68); an entry of the value list that is none is ABSENT. -/
structure Summary where
  cls : Nat
  source : Byte
  seq : Byte
  gap : Bool
  stamp : Stamp
  values : List (Option Value)
  conds : List Cond
  deriving DecidableEq, Repr

/-- A record request (R106); its kind is FRAME. -/
structure RecordRequest where
  cls : Nat
  cause : Nat
  fired : List Nat
  source : Byte
  seq : Byte
  stamp : Stamp
  values : List (Option Value)
  deriving DecidableEq, Repr

/-- An entry of the Condition State Table (R101). -/
structure CondState where
  counter : Nat
  armed : Bool
  reference : Option Int
  deriving DecidableEq, Repr

/-- The ARM value of an entry (R101). -/
def CondState.atArm : CondState := ⟨0, true, none⟩

/-- The trigger state (R85). -/
inductive TriggerState where
  | running
  | frozen
  deriving DecidableEq, Repr

/-- The notices the Capture Unit sends to the Trigger Unit (R86, R87). -/
inductive Notice where
  | arm
  | stop
  | clear
  deriving DecidableEq, Repr

/-- The Trigger Unit, with the summary and the notices in passage to it. -/
structure Trigger where
  state : TriggerState
  /-- The summary handed over by a lookup that has not arrived yet (R69: at most one). -/
  passage : Option Summary
  /-- The Summary Queue, head first (R89). -/
  queue : List Summary
  /-- The hand-off to the Capture Unit (R91). -/
  handOff : Option RecordRequest
  /-- The notices sent and not yet taken, oldest first (R88). -/
  notices : List Notice
  /-- The Condition State Table, entry of class c and index i at 4·c + i; an unlisted entry holds its
  ARM value (R101). -/
  conds : Cells CondState
  /-- The Seen-Node Sets: node n of class c at 128·c + n; an unlisted node is not in the set (R102). -/
  seen : Cells Bool
  /-- SUMMARY-OVERFLOW (R92). -/
  overflow : Count
  deriving DecidableEq, Repr

/-! ### Capture Unit (chapters 7 and 8) -/

/-- The capture state (R115). -/
inductive CaptureState where
  | idle
  | armed
  | full
  | stopped
  deriving DecidableEq, Repr

/-- The mode (R116). -/
inductive Mode where
  | wrap
  | fill
  deriving DecidableEq, Repr

/-- The stop reason (R114, 7.3). -/
inductive StopReason where
  | none
  | request
  | limit
  | restart
  deriving DecidableEq, Repr

/-- What a record carries beside serial and stamp, by kind (R114). -/
inductive RecordBody where
  | start (mode : Mode) (limit : Nat)
  | stop (reason : StopReason)
  | frame (cls cause : Nat) (fired : List Nat) (source seq : Byte) (values : List (Option Value))
  | mark (requester : Byte) (text : List Byte)
  | gap (missed : Count)
  deriving DecidableEq, Repr

/-- A record (R113). Its slot is the index it stands at. -/
structure Record where
  serial : Count
  stamp : Stamp
  body : RecordBody
  deriving DecidableEq, Repr

/-- The Capture Unit (7.3). -/
structure Capture where
  /-- The Capture Ring by slot; an unlisted slot is EMPTY (R109). -/
  ring : Cells (Option Record)
  /-- The write cursor (R110). -/
  wc : Nat
  /-- The read cursor (R110). -/
  rc : Nat
  /-- The unread count U (R111). -/
  unread : Nat
  /-- The next serial (R112). -/
  nextSerial : Count
  state : CaptureState
  mode : Mode
  /-- The record limit 0..65535 (R121). -/
  limit : Nat
  /-- The limit count 0..65535 (R119). -/
  limitCount : Nat
  missed : Count
  overwritten : Count
  stopReason : StopReason
  deriving DecidableEq, Repr

/-! ### Management Agent (chapter 10) -/

/-- The unmatched action (R61). -/
inductive Unmatched where
  | pass
  | hold
  deriving DecidableEq, Repr

/-- The Active Profile (R175, R176). -/
structure Profile where
  /-- PROFILE rather than BARE (R186). -/
  loaded : Bool
  address : Byte
  managers : List Byte
  alertNode : Option Byte
  timeMaster : Option Byte
  defaultMode : Mode
  autostart : Bool
  blockLimit : Nat
  /-- The session timeout in seconds. -/
  timeout : Nat
  unmatched : Unmatched
  deriving DecidableEq, Repr

/-- The bare-mode settings with the strap as read at the load (R176). -/
def Profile.bare (strap : BitVec 2) : Profile :=
  { loaded := false, address := 120 + strap.setWidth 8, managers := [], alertNode := none,
    timeMaster := none, defaultMode := .wrap, autostart := false, blockLimit := 16, timeout := 10,
    unmatched := .pass }

/-- The profile state (R175). -/
inductive ProfileState where
  | absent
  | loaded
  | rejected (index : Nat)
  deriving DecidableEq, Repr

/-- The session record (R183); `left` is the bit times left on its timer. -/
structure Session where
  owner : Byte
  override : Bool
  left : Nat
  deriving DecidableEq, Repr

/-- An entry of the Retry Cache (R181): its frames, or none while it is pending. `id` tells entries
made for different requests apart (R182; log entry 10). -/
structure CacheEntry where
  node : Byte
  seq : Byte
  id : Nat
  frames : Option (List Frame)
  deriving DecidableEq, Repr

/-- The blocks that take dispatched requests or parts of them (R179, R187, R188). -/
inductive Block where
  | port (p : Port)
  | timeBase
  | classifier
  | trigger
  | resolver
  | store
  | capture
  deriving DecidableEq, Repr

/-- A request dispatched to a block and not yet taken there (R179): the reply frames held for it
(R180), the cache entry made for it, and the gathering it is a part of, if any. -/
structure Dispatch where
  dest : Block
  request : Request
  entry : Nat
  held : Nat
  gather : Option Nat
  deriving DecidableEq, Repr

/-- The three requests that gather or clear parts of several blocks (R179). A STATUS holds the bytes of
the Agent's own part, a COUNTERS its group. -/
inductive GatherKind where
  | status (agentPart : List Byte)
  | counters (group : Nat)
  | clear
  deriving DecidableEq, Repr

/-- A STATUS, COUNTERS or COUNTERS-CLEAR under way: the blocks that have not taken their part, and the
bytes of the parts read. -/
structure Gather where
  id : Nat
  kind : GatherKind
  request : Request
  entry : Nat
  held : Nat
  waiting : List Block
  got : List (Block × List Byte)
  deriving DecidableEq, Repr

/-- The RESTART events that blocks still owe after one RESTART at the Agent (R194). -/
structure Restarting where
  egressU : Bool
  egressD : Bool
  classifier : Bool
  resolver : Bool
  trigger : Bool
  capture : Bool
  timeBase : Bool
  deriving DecidableEq, Repr

/-- The alert conditions, in the order of the alert set byte (R189, 11.4). -/
inductive AlertCond where
  | captureFull
  | captureStopped
  | storeDone
  | storeFault
  | sessionExpired
  | syncLost
  | profileRejected
  deriving DecidableEq, Repr

/-- A set of alert conditions as the alert set byte holds it (11.4). -/
abbrev AlertSet := BitVec 7

/-- The alert protocol's state (R189 to R192). -/
structure Alerts where
  pending : AlertSet
  outstanding : AlertSet
  unreported : AlertSet
  /-- Bit times left on the ack timer; none while it is stopped. -/
  ackTimer : Option Nat
  tries : Nat
  retryDue : Bool
  nextSerial : Byte
  /-- The current serial, of use while something is outstanding (R190). -/
  current : Byte
  deriving DecidableEq, Repr

/-- The Management Agent. -/
structure Agent where
  profile : Profile
  profileState : ProfileState
  /-- ADDR_SEL1..0 as read at the last load (R176). -/
  strapRead : BitVec 2
  session : Option Session
  /-- The STORE_GUARD level as the Agent last took it (R185). -/
  guard : Bool
  /-- The Retry Cache, most recently used entry first (R181, R182). -/
  cache : List CacheEntry
  /-- The id of the next cache entry or gathering. -/
  nextId : Nat
  /-- The requests and parts dispatched and not yet taken, in the order of dispatch (R179). -/
  dispatched : List Dispatch
  gathers : List Gather
  /-- The RESTARTs whose blocks' events or autostart are not all taken, oldest first (R194). -/
  restarts : List Restarting
  alerts : Alerts
  deriving DecidableEq, Repr

/-! ### The whole bridge -/

/-- The state of the bridge. -/
structure State where
  /-- Powered, with RESET_N high (R172, R174). -/
  powered : Bool
  /-- The level on the pins ADDR_SEL1..0 as a command last gave it (3.1 of 00_scope.md). -/
  strap : BitVec 2
  time : TimeBase
  portU : PortState
  portD : PortState
  classifier : Classifier
  resolver : Resolver
  store : Store
  trigger : Trigger
  capture : Capture
  agent : Agent
  /-- How many free values have been used (log entry 12): the model's own field. -/
  draws : Nat
  /-- The commands that wait, first in first out: the model's own field. -/
  pending : List Instr
  deriving DecidableEq, Repr

/-- The reasons to stop with a fault. There are none: the spec gives every command an effect, and a
command that names an event the state does not allow changes nothing (log entry 1). Safe. -/
inductive Fault where
  deriving DecidableEq, Repr

/-- The reasons to refuse a command. -/
inductive Refusal where
  /-- Raised by `exec` for a command without a meaning yet; no arm raises it now. Safe. -/
  | notModelled (mnemonic : String)
  deriving DecidableEq, Repr

/-! ### Values after POR -/

/-- A port after POR, its line as the outside drives it (R9, R13, R24, R27, R35). -/
def PortState.atPor (line : LineCond) : PortState :=
  { link := .down, line := line, awaitIdle := false,
    measure := if line = .idle then some Config.linkUpWait else none,
    accepted := none, request := none, transit := [], reply := [], sending := none, passover := 0,
    reservation := 0, rxGood := 0, rxCheckErr := 0, rxFormatErr := 0, txFrames := 0,
    transitDropFull := 0, transitDropDown := 0, replyLost := 0, requestDrop := 0 }

/-- The Time Base after POR, before the profile is loaded (R14, R16). -/
def TimeBase.atPor : TimeBase :=
  { linkTime := 0, sub := 0, synced := false, lossTimer := none, timeMaster := none }

/-- The Classifier after POR (R22, R65, R70, R71). -/
def Classifier.atPor : Classifier :=
  { nodeMap := [], nodeState := [], toSelf := 0, unmatched := 0, unresolved := 0, holdDiscard := 0,
    classCount := [] }

/-- The Page Resolver after POR (R55). -/
def Resolver.atPor : Resolver := { tuning := [], windows := [], pins := [] }

/-- The Table Store as delivered (R149), after POR (R173), with a STORE_GUARD level. -/
def Store.delivered (guard : Bool) : Store :=
  { pageState := [], locked := [], eraseCount := [], words := [], engine := none, latch := .none,
    last := none, guard := guard }

/-- The Trigger Unit after POR (6.1). -/
def Trigger.atPor : Trigger :=
  { state := .frozen, passage := none, queue := [], handOff := none, notices := [], conds := [],
    seen := [], overflow := 0 }

/-- The Capture Unit after POR, in the mode the profile names (R130). -/
def Capture.atPor (mode : Mode) : Capture :=
  { ring := [], wc := 0, rc := 0, unread := 0, nextSerial := 1, state := .idle, mode := mode,
    limit := 0, limitCount := 0, missed := 0, overwritten := 0, stopReason := .none }

/-- The alert protocol after POR (R192). The current serial is of no use before the first send. -/
def Alerts.atPor : Alerts :=
  { pending := 0, outstanding := 0, unreported := 0, ackTimer := none, tries := 0, retryDue := false,
    nextSerial := 0, current := 0 }

/-- The Agent after POR with a profile as loaded (10, table of the Agent's state). -/
def Agent.atPor (profile : Profile) (ps : ProfileState) (strap : BitVec 2) (guard : Bool) : Agent :=
  { profile := profile, profileState := ps, strapRead := strap, session := none, guard := guard,
    cache := [], nextId := 0, dispatched := [], gathers := [], restarts := [],
    alerts := Alerts.atPor }

/-- The bridge right after POR with the store as delivered: bare mode, since store page 0 is ERASED
(R175). The levels of STORE_GUARD (low) and ADDR_SEL (00) and the line conditions (silence) are the
outside's; log entry 5 says why these. -/
def State.reset : State :=
  { powered := true, strap := 0, time := TimeBase.atPor, portU := PortState.atPor .silence,
    portD := PortState.atPor .silence, classifier := Classifier.atPor, resolver := Resolver.atPor,
    store := Store.delivered false, trigger := Trigger.atPor, capture := Capture.atPor .wrap,
    agent := Agent.atPor (Profile.bare 0) .absent 0 false, draws := 0, pending := [] }

/-! ### Updates of one part -/

/-- The state with another Time Base. -/
def State.withTime (s : State) (x : TimeBase) : State := { s with time := x }
/-- The state with another Classifier. -/
def State.withClassifier (s : State) (x : Classifier) : State := { s with classifier := x }
/-- The state with another Page Resolver. -/
def State.withResolver (s : State) (x : Resolver) : State := { s with resolver := x }
/-- The state with another Table Store. -/
def State.withStore (s : State) (x : Store) : State := { s with store := x }
/-- The state with another Trigger Unit. -/
def State.withTrigger (s : State) (x : Trigger) : State := { s with trigger := x }
/-- The state with another Capture Unit. -/
def State.withCapture (s : State) (x : Capture) : State := { s with capture := x }
/-- The state with another Agent. -/
def State.withAgent (s : State) (x : Agent) : State := { s with agent := x }
/-- The state with another strap level. -/
def State.withStrap (s : State) (x : BitVec 2) : State := { s with strap := x }
/-- The state with another count of free values used. -/
def State.withDraws (s : State) (x : Nat) : State := { s with draws := x }
/-- The state with another queue of waiting commands. -/
def State.withPending (s : State) (x : List Instr) : State := { s with pending := x }

/-- The port of a name. -/
def State.port (s : State) : Port → PortState
  | .U => s.portU
  | .D => s.portD

/-- The state with another port of a name. -/
def State.withPort (s : State) (p : Port) (x : PortState) : State :=
  match p with
  | .U => { s with portU := x }
  | .D => { s with portD := x }

end Sys2Proof.Machine
end

