-- ==== Sys2Proof/Machine/Flags.lean ====
section
/-! DEFINITION. Saturating counts, the gap flag (R66), and the bits of an alert set (11.4). -/

namespace Sys2Proof.Machine

/-- An increment of a count that holds at 4294967295 (R9, R35, R117). -/
def bump (c : Count) : Count := if c = 4294967295 then c else c + 1

/-- `n` increments of such a count. -/
def bumpBy (c : Count) (n : Nat) : Count := BitVec.ofNat 32 (min (c.toNat + n) 4294967295)

/-- An increment of an erase count, which holds at 65535 (R151). -/
def bumpErase (c : Word) : Word := if c = 65535 then c else c + 1

/-- The serial after a serial: 4294967295 is followed by 1 (R112). -/
def serialAfter (c : Count) : Count := if c = 4294967295 then 1 else c + 1

/-- The gap flag: seq-check set, the entry present, and the sequence not the entry's value plus 1,
modulo 256 (R66). -/
def gapFlag (seqCheck : Bool) (last : Option Byte) (seq : Byte) : Bool :=
  match last with
  | none => false
  | some l => seqCheck && decide (seq ≠ l + 1)

/-- The bit of a condition in an alert set byte (11.4). -/
def AlertCond.bit : AlertCond → Nat
  | .captureFull => 0
  | .captureStopped => 1
  | .storeDone => 2
  | .storeFault => 3
  | .sessionExpired => 4
  | .syncLost => 5
  | .profileRejected => 6

/-- The set of one condition. -/
def AlertCond.single (c : AlertCond) : AlertSet := 1#7 <<< c.bit

/-- Whether a condition is in a set. -/
def AlertCond.isIn (c : AlertCond) (a : AlertSet) : Bool := a.getLsbD c.bit

/-- The set as its byte; bit 7 is sent as 0 (R196). -/
def alertByte (a : AlertSet) : Byte := a.setWidth 8

end Sys2Proof.Machine
end

