-- ==== Sys2Proof/Machine/Cells.lean ====
section
/-! DEFINITION. Reading and writing an addressed table held as `Cells`: one canonical form, indices
strictly rising and no entry equal to what an unlisted index reads as (log entry 26). `d` is that value throughout. -/

namespace Sys2Proof.Machine

/-- The canonical form. -/
abbrev Cells.Wf {α : Type} (d : α) (m : Cells α) : Prop :=
  m.Pairwise (fun a b => a.1 < b.1) ∧ ∀ e ∈ m, e.2 ≠ d

/-- What index `i` reads as. -/
def Cells.read {α : Type} (d : α) : Cells α → Nat → α
  | [], _ => d
  | (k, v) :: rest, i => if k = i then v else Cells.read d rest i

/-- Index `i` takes the value `v`; a value equal to `d` is not listed. -/
def Cells.write {α : Type} [DecidableEq α] (d : α) : Cells α → Nat → α → Cells α
  | [], i, v => if v = d then [] else [(i, v)]
  | (k, w) :: rest, i, v =>
    if i < k then (if v = d then (k, w) :: rest else (i, v) :: (k, w) :: rest)
    else if i = k then (if v = d then rest else (i, v) :: rest)
    else (k, w) :: Cells.write d rest i v

/-- Consecutive indices from `i` on take the values of a list. -/
def Cells.writeAll {α : Type} [DecidableEq α] (d : α) (m : Cells α) (i : Nat) : List α → Cells α
  | [] => m
  | v :: vs => Cells.writeAll d (Cells.write d m i v) (i + 1) vs

/-- Every index that reads as `v` comes to read as `d`. -/
def Cells.forget {α : Type} [DecidableEq α] (m : Cells α) (v : α) : Cells α :=
  m.filter fun e => e.2 ≠ v

/-- Every index in `lo ..< hi` comes to read as `d`. -/
def Cells.eraseRange {α : Type} (m : Cells α) (lo hi : Nat) : Cells α :=
  m.filter fun e => e.1 < lo || hi ≤ e.1

end Sys2Proof.Machine
end

