-- ==== Sys2Proof/Machine/Operands.lean ====
section
/-! DEFINITION. Bytes, words and fields: the byte orders, the bit fields of page words (11.6), the
fields of request payloads (R196), the frame's bytes (R1, 11.1) and the CRC-16 (R4). -/

namespace Sys2Proof.Machine

/-- The whole number in bits `lo + len - 1 .. lo` of a word. -/
def wordField (w : Word) (lo len : Nat) : Nat := (w.toNat >>> lo) % 2 ^ len

/-- Whether bit `i` of a word is 1. -/
def wordBit (w : Word) (i : Nat) : Bool := w.getLsbD i

/-- A byte from a whole number. -/
def byteOf (n : Nat) : Byte := BitVec.ofNat 8 n

/-- 0 or 1 for no or yes (11.4). -/
def flagByte (b : Bool) : Byte := if b then 1 else 0

/-- The `n` bytes of a whole number, most significant first (4.2 of 00_scope.md). -/
def bytesOf : Nat → Nat → List Byte
  | 0, _ => []
  | n + 1, x => byteOf (x >>> (8 * n)) :: bytesOf n x

/-- The whole number of bytes taken most significant first (R76). -/
def numberOf (bs : List Byte) : Nat := bs.foldl (fun acc b => acc * 256 + b.toNat) 0

/-- The two bytes of a word, high byte first (4.2 of 00_scope.md). -/
def wordBytes (w : Word) : List Byte := bytesOf 2 w.toNat

/-- The bytes of words, each high byte first. -/
def wordsBytes : List Word → List Byte
  | [] => []
  | w :: ws => wordBytes w ++ wordsBytes ws

/-- The words that bytes make, each high byte first; a last odd byte makes none. -/
def wordsOf : List Byte → List Word
  | a :: b :: rest => BitVec.ofNat 16 (a.toNat * 256 + b.toNat) :: wordsOf rest
  | _ => []

/-- A node address or "none" as a byte: 255 for none (11.4). -/
def nodeByte : Option Byte → Byte
  | some n => n
  | none => 255

/-! ### Request payloads -/

/-- The byte at an offset of the payload, as a whole number (R196). -/
def Request.field (r : Request) (i : Nat) : Nat := (r.payload.getD i 0).toNat

/-- The two-byte field at an offset of the payload. -/
def Request.field2 (r : Request) (i : Nat) : Nat := r.field i * 256 + r.field (i + 1)

/-- A field read from bit 0 (R196). -/
def Request.flag (r : Request) (i : Nat) : Bool := (r.payload.getD i 0).getLsbD 0

/-- The request a payload names (R177 step 2). -/
def Request.kind (r : Request) : Option ReqKind := ReqKind.ofPayload r.payload

/-- The request code byte of a reply: 0x00 when the payload is too short to hold one (11.2). -/
def Request.codeByte (r : Request) : Byte := r.payload.getD 0 0

/-! ### The check -/

/-- One bit of the CRC register: shift, and x^12 + x^5 + 1 when a 1 leaves it (R4). -/
def crcShift (r : Word) : Word := if r.getLsbD 15 then (r <<< 1) ^^^ 0x1021 else r <<< 1

/-- One byte, most significant bit first (R4). -/
def crcByte (r : Word) (b : Byte) : Word :=
  crcShift (crcShift (crcShift (crcShift (crcShift (crcShift (crcShift (crcShift
    (r ^^^ ((b.setWidth 16) <<< 8)))))))))

/-- CRC-16 over bytes in their order, from all ones, with no final inversion (R4). -/
def crc16 (bs : List Byte) : Word := bs.foldl crcByte 0xFFFF

/-! ### Frames -/

/-- The kind field's value (R1, 11.1). -/
def FrameKind.code : FrameKind → Byte
  | .data => 1
  | .sync => 2
  | .mgmtReq => 3
  | .mgmtRsp => 4
  | .alert => 5

/-- The kind a value names, or none (R1). -/
def FrameKind.ofCode (c : Byte) : Option FrameKind :=
  match c.toNat with
  | 1 => some .data
  | 2 => some .sync
  | 3 => some .mgmtReq
  | 4 => some .mgmtRsp
  | 5 => some .alert
  | _ => none

/-- The five header bytes (11.1). -/
def Frame.header (f : Frame) : List Byte :=
  [f.dst, f.src, f.kind.code, f.seq, byteOf f.payload.length]

/-- The bytes of a frame in the order of the link: header, payload, check, high byte first (11.1). -/
def Frame.bytes (f : Frame) : List Byte := f.header ++ f.payload ++ wordBytes f.check

/-- A frame the bridge originates: its check is computed over header and payload (R4). -/
def Frame.build (dst src : Byte) (kind : FrameKind) (seq : Byte) (payload : List Byte) : Frame :=
  let f : Frame := { dst := dst, src := src, kind := kind, seq := seq, payload := payload, check := 0 }
  { f with check := crc16 (f.header ++ payload) }

/-- How a complete run is judged (R6). -/
inductive Judged where
  | formatErr
  | checkErr
  | good (f : Frame)
  deriving DecidableEq, Repr

/-- The six tests of R6, in their order. The bytes of a run beyond the 71st are counted and not kept
(R5): a run that long fails the first test. No test asks for the destination (log entry 17). -/
def judgeRun (run : List Byte) : Judged :=
  let n := run.length
  if n < 7 ∨ 71 < n then .formatErr
  else if crc16 (run.take (n - 2)) ≠ BitVec.ofNat 16 (numberOf (run.drop (n - 2))) then .checkErr
  else
    let len := (run.getD 4 0).toNat
    if 64 < len then .formatErr
    else if n ≠ 7 + len then .formatErr
    else
      match FrameKind.ofCode (run.getD 2 0) with
      | none => .formatErr
      | some kind =>
        if 126 < (run.getD 1 0).toNat then .formatErr
        else .good { dst := run.getD 0 0, src := run.getD 1 0, kind := kind, seq := run.getD 3 0,
                     payload := (run.drop 5).take len,
                     check := BitVec.ofNat 16 (numberOf (run.drop (n - 2))) }

end Sys2Proof.Machine
end

