-- ==== Sys2Proof/Machine/Ops.lean ====
section
/-! DEFINITION. The operations several blocks share: power, the passing of time, the Egress Arbiter and
its queues (chapter 2), raising an alert condition (R189), and the free values of replies. -/

namespace Sys2Proof.Machine

/-- What an event does to a bridge that is powered; an unpowered one takes no event (R172, R174). -/
def State.ifPowered (s : State) (f : State → State) : State := if s.powered then f s else s

/-- The other port. -/
def otherPort : Port → Port
  | .U => .D
  | .D => .U

/-! ### Time -/

/-- A timer after `n` bit times; it stands at 0 until its event is taken. -/
def runTimer (n : Nat) (t : Option Nat) : Option Nat := t.map (· - n)

/-- The Time Base after `n` bit times: Link Time counts microseconds modulo 2^48 (R14), and the
sync-loss timer runs (R16). -/
def elapseTime (n : Nat) (t : TimeBase) : TimeBase :=
  { t with linkTime := t.linkTime + BitVec.ofNat 48 ((t.sub + n) / Config.bitsPerMicro),
           sub := (t.sub + n) % Config.bitsPerMicro,
           lossTimer := runTimer n t.lossTimer }

/-- A port after `n` bit times: its link measurement (1.6) and its transmission (R31) go on. -/
def elapsePort (n : Nat) (p : PortState) : PortState :=
  { p with measure := runTimer n p.measure,
           sending := p.sending.map fun x => { x with left := x.left - n } }

/-- The Table Store after `n` bit times: the phase goes on (R154). -/
def elapseStore (n : Nat) (t : Store) : Store :=
  { t with engine := t.engine.map fun o => { o with left := o.left - n } }

/-- The Agent after `n` bit times: the session timer (R184) and the ack timer (R191) run. -/
def elapseAgent (n : Nat) (a : Agent) : Agent :=
  { a with session := a.session.map (fun x => { x with left := x.left - n }),
           alerts := { a.alerts with ackTimer := runTimer n a.alerts.ackTimer } }

/-- The bridge after `n` bit times in which no event is taken (log entry 3). -/
def elapse (n : Nat) (s : State) : State :=
  { s with time := elapseTime n s.time, portU := elapsePort n s.portU, portD := elapsePort n s.portD,
           store := elapseStore n s.store, agent := elapseAgent n s.agent }

/-- The stamp of an event: Link Time and the synced flag as they stand (R14, R18). -/
def stampNow (s : State) : Stamp := { time := s.time.linkTime, synced := s.time.synced }

/-! ### Alerts and free values -/

/-- An alert condition raised joins the pending set (R189; log entry 8). -/
def Agent.raised (c : AlertCond) (a : Agent) : Agent :=
  { a with alerts := { a.alerts with pending := a.alerts.pending ||| c.single } }

/-- A block raises an alert condition at the Agent. -/
def raise (c : AlertCond) (s : State) : State := s.withAgent (s.agent.raised c)

/-- The next free byte (log entry 12). -/
def freeByteNow (s : State) : Byte := Config.freeByte s.draws

/-- The next `n` free bytes (log entry 12). -/
def freeBytesNow (s : State) (n : Nat) : List Byte :=
  (List.range n).map fun i => Config.freeByte (s.draws + i)

/-- The state after `n` free values were used. -/
def drew (n : Nat) (s : State) : State := s.withDraws (s.draws + n)

/-! ### The egress side -/

/-- The Arbiter's table (R29): the frame chosen, with its queues and passover count after. -/
def PortState.choice (x : PortState) : PortState :=
  match x.transit, x.reply with
  | [], [] => x
  | f :: rest, [] => { x with transit := rest, sending := some ⟨f, false, Config.wireTime f.bytes.length⟩ }
  | [], r :: rest =>
    { x with reply := rest, passover := 0,
             sending := some ⟨r.frame, true, Config.wireTime r.frame.bytes.length⟩ }
  | f :: frest, r :: rrest =>
    if x.passover < Config.passoverLimit then
      { x with transit := frest, passover := x.passover + 1,
               sending := some ⟨f, false, Config.wireTime f.bytes.length⟩ }
    else
      { x with reply := rrest, passover := 0,
               sending := some ⟨r.frame, true, Config.wireTime r.frame.bytes.length⟩ }

/-- The Arbiter chooses when its port is LINK-UP and its transmitter IDLE (R28). -/
def PortState.arbitrate (x : PortState) : PortState :=
  if x.link = .up ∧ x.sending = none then x.choice else x

/-- A frame handed to the Transit Queue that feeds a port (R25). -/
def PortState.handTransit (f : Frame) (x : PortState) : PortState :=
  match x.link with
  | .down => { x with transitDropDown := bump x.transitDropDown }
  | .up =>
    if Config.transitRoom ≤ x.transit.length then { x with transitDropFull := bump x.transitDropFull }
    else PortState.arbitrate { x with transit := x.transit ++ [f] }

/-- A frame the Agent places on a port's Reply Queue (R27). -/
def PortState.place (r : Reply) (x : PortState) : PortState :=
  match x.link with
  | .down => { x with replyLost := bump x.replyLost }
  | .up => PortState.arbitrate { x with reply := x.reply ++ [r] }

/-- Frames placed one after the other, in their order (R180). -/
def PortState.placeAll (rs : List Reply) (x : PortState) : PortState :=
  rs.foldl (fun y r => y.place r) x

/-- The free frames of a port: 8, less the frames in its Reply Queue, less its reservation (R180). -/
def PortState.free (x : PortState) : Nat := Config.replyRoom - x.reply.length - x.reservation

/-- The egress side at link-down (R33): the frame in transmission is abandoned and counted by its
source, both queues are emptied and counted, the passover count is 0. -/
def PortState.egressDown (x : PortState) : PortState :=
  let abandonedTransit := match x.sending with | some y => if y.fromReply then 0 else 1 | none => 0
  let abandonedReply := match x.sending with | some y => if y.fromReply then 1 else 0 | none => 0
  { x with transit := [], reply := [], sending := none, passover := 0,
           transitDropDown := bumpBy x.transitDropDown (x.transit.length + abandonedTransit),
           replyLost := bumpBy x.replyLost (x.reply.length + abandonedReply) }

/-- The egress side at its RESTART event (R26): the Transit Queue emptied and counted, the Reply Queue
emptied and counted but for the RESTART reply, the passover count 0. -/
def PortState.egressRestart (x : PortState) : PortState :=
  let kept := x.reply.filter fun r => 0 < r.survives
  { x with transit := [], reply := kept.map (fun r => { r with survives := r.survives - 1 }),
           passover := 0,
           transitDropDown := bumpBy x.transitDropDown x.transit.length,
           replyLost := bumpBy x.replyLost (x.reply.length - kept.length) }

/-- A port changed in place. -/
def State.onPort (s : State) (p : Port) (f : PortState → PortState) : State :=
  s.withPort p (f (s.port p))

end Sys2Proof.Machine
end

