-- ==== Sys2Proof/Machine/Resolution.lean ====
section
/-! DEFINITION. Page resolution (chapter 3): windows in force, the state of a store page at a lookup,
and the words a page gives. -/

namespace Sys2Proof.Machine

/-- Words in a page (R36). -/
def pageSize : Nat := 256

/-- The window of a number (R40). -/
def Resolver.window (r : Resolver) (w : Nat) : Window := Cells.read Window.atPor r.windows w

/-- Word `i` of tuning page `t` (R39). -/
def Resolver.word (r : Resolver) (t i : Nat) : Word := Cells.read 0 r.tuning (pageSize * t + i)

/-- The pin mark of tuning page `t` (R45). -/
def Resolver.pinned (r : Resolver) (t : Nat) : Bool := Cells.read false r.pins t

/-- The pin mark of a tuning page set or cleared (R45). -/
def Resolver.setPin (r : Resolver) (t : Nat) (b : Bool) : Resolver :=
  { r with pins := Cells.write false r.pins t b }

/-- Whether window `w` is enabled over target `p`. -/
def Resolver.covers (r : Resolver) (p w : Nat) : Bool := (r.window w).enabled && (r.window w).target == p

/-- The window in force over a target: the lowest-numbered enabled one (R41). -/
def Resolver.inForce (r : Resolver) (p : Nat) : Option Nat := [0, 1, 2, 3].find? (r.covers p)

/-- The page state of store page `p` (R150). -/
def Store.state (t : Store) (p : Nat) : PageState := Cells.read .erased t.pageState p

/-- The lock flag of store page `p` (R152). -/
def Store.isLocked (t : Store) (p : Nat) : Bool := Cells.read false t.locked p

/-- The erase count of store page `p` (R151). -/
def Store.erases (t : Store) (p : Nat) : Word := Cells.read 0 t.eraseCount p

/-- Word `i` of store page `p`. -/
def Store.word (t : Store) (p i : Nat) : Word := Cells.read 0 t.words (pageSize * p + i)

/-- The answer of a resolution (3.4). -/
inductive Resolved where
  | tuning (t : Nat)
  | store (p : Nat)
  | blank
  | unavailable
  deriving DecidableEq, Repr

/-- The store's answer when no window is in force over `p` (R42). -/
def Store.resolve (t : Store) (p : Nat) : Resolved :=
  let byState := if t.state p = .valid then Resolved.store p else .blank
  match t.engine with
  | none => byState
  | some o => if o.page = p ∧ o.kind ≠ .lock then .unavailable else byState

/-- Logical page `p` resolved at one event (R41, R42). -/
def resolve (s : State) (p : Nat) : Resolved :=
  match s.resolver.inForce p with
  | some w => .tuning (s.resolver.window w).page
  | none => s.store.resolve p

/-- The words a resolution hands to the Classifier; none for UNAVAILABLE (3.4). -/
def Resolved.content (s : State) : Resolved → Option (Nat → Word)
  | .tuning t => some (s.resolver.word t)
  | .store p => some (s.store.word p)
  | .blank => some fun _ => 0
  | .unavailable => none

/-- The content of logical page `p` at one event, or none. -/
def pageContent (s : State) (p : Nat) : Option (Nat → Word) := (resolve s p).content s

/-- The words of store page `p` as a reader sees them: zeros unless VALID (R53, R149). -/
def Store.readWord (t : Store) (p i : Nat) : Word := if t.state p = .valid then t.word p i else 0

/-- `count` words from `offset` on. -/
def wordsFrom (content : Nat → Word) (offset count : Nat) : List Word :=
  (List.range count).map fun i => content (offset + i)

/-- The whole of a page. -/
def wholePage (content : Nat → Word) : List Word := wordsFrom content 0 pageSize

end Sys2Proof.Machine
end

