-- ==== Sys2Proof/Machine/Profile.lean ====
section
/-! DEFINITION. Loading the Active Profile from store page 0 (R38, R175, R176, 11.6). -/

namespace Sys2Proof.Machine

/-- The profile-present marker (11.6). -/
def profileMarker : Word := 0x5042

/-- The word that stands for an absent node (R195). -/
def absentWord : Word := 0xFFFF

/-- A profile node field: absent, or a node (R195). -/
def profileNode (w : Word) : Option Byte := if w = absentWord then none else some (w.setWidth 8)

/-- The manager addresses a profile page names: the first count of words 3..6 (11.6). -/
def profileManagers (page : Nat → Word) : List Word := wordsFrom page 3 (page 2).toNat

/-- Whether the field of an index of R175 is in range. -/
def profileFieldOk (page : Nat → Word) : Nat → Bool
  | 1 => 1 ≤ (page 1).toNat && (page 1).toNat ≤ 126
  | 2 => (page 2).toNat ≤ 4 && (profileManagers page).all (fun w => w.toNat ≤ 126)
          && decide (profileManagers page).Nodup
  | 3 => page 7 == absentWord || ((page 7).toNat ≤ 126 && page 7 != page 1)
  | 4 => page 8 == absentWord || (page 8).toNat ≤ 126
  | 5 => (page 9).toNat ≤ 1
  | 6 => (page 10).toNat ≤ 1
  | 7 => 1 ≤ (page 11).toNat && (page 11).toNat ≤ 16
  | 8 => 1 ≤ (page 12).toNat && (page 12).toNat ≤ 60
  | 9 => (page 13).toNat ≤ 1
  | _ => true

/-- The index of the first field out of range, if any (R175). -/
def profileFault (page : Nat → Word) : Option Nat :=
  [1, 2, 3, 4, 5, 6, 7, 8, 9].find? fun i => !profileFieldOk page i

/-- The profile a page names when every field is in range (11.6). -/
def profileOf (page : Nat → Word) : Profile :=
  { loaded := true
    address := (page 1).setWidth 8
    managers := (profileManagers page).map (·.setWidth 8)
    alertNode := profileNode (page 7)
    timeMaster := profileNode (page 8)
    defaultMode := if page 9 = 0 then .wrap else .fill
    autostart := page 10 != 0
    blockLimit := (page 11).toNat
    timeout := (page 12).toNat
    unmatched := if page 13 = 0 then .pass else .hold }

/-- The load of the Active Profile from page 0 as read, with the strap read at the same load (R175). -/
def loadFrom (page : Nat → Word) (strap : BitVec 2) : Profile × ProfileState :=
  if page 0 ≠ profileMarker then (Profile.bare strap, .absent)
  else
    match profileFault page with
    | some i => (Profile.bare strap, .rejected i)
    | none => (profileOf page, .loaded)

/-- Page 0 as the Agent reads it: its content when VALID, blank otherwise (R38). -/
def Store.pageZero (t : Store) : Nat → Word := t.readWord 0

/-- The profile and profile state that a load from the store gives. -/
def Store.loadProfile (t : Store) (strap : BitVec 2) : Profile × ProfileState :=
  loadFrom t.pageZero strap

/-- The Agent with the Active Profile loaded; a rejected profile raises PROFILE-REJECTED (R175). -/
def Agent.load (t : Store) (strap : BitVec 2) (a : Agent) : Agent :=
  let l := t.loadProfile strap
  let a' := { a with profile := l.1, profileState := l.2, strapRead := strap }
  match l.2 with
  | .rejected _ => a'.raised .profileRejected
  | _ => a'

end Sys2Proof.Machine
end

