-- ==== Sys2Proof/Machine/Extraction.lean ====
section
/-! DEFINITION. Field extraction (chapter 5): the Field Map of a class, and the value list it draws from
a payload. -/

namespace Sys2Proof.Machine

/-- The type a type code names; code 0 and the codes above 8 name none (11.3, 11.6). -/
def ValueType.ofCode : Nat → Option ValueType
  | 1 => some .u8
  | 2 => some .s8
  | 3 => some .u16
  | 4 => some .s16
  | 5 => some .u24
  | 6 => some .s24
  | 7 => some .u32
  | 8 => some .s32
  | _ => none

/-- The type code of a type (11.3). -/
def ValueType.code : ValueType → Nat
  | .u8 => 1
  | .s8 => 2
  | .u16 => 3
  | .s16 => 4
  | .u24 => 5
  | .s24 => 6
  | .u32 => 7
  | .s32 => 8

/-- Width in bytes (R74). -/
def ValueType.width : ValueType → Nat
  | .u8 | .s8 => 1
  | .u16 | .s16 => 2
  | .u24 | .s24 => 3
  | .u32 | .s32 => 4

/-- Whether the type is signed (R74). -/
def ValueType.signed : ValueType → Bool
  | .s8 | .s16 | .s24 | .s32 => true
  | _ => false

/-- The value of a type that bytes make: most significant first, and for a signed type with the top bit
set, less two to the power of the width in bits (R76). -/
def ValueType.assemble (t : ValueType) (bs : List Byte) : Int :=
  let n := numberOf bs
  if t.signed && decide (2 ^ (8 * t.width - 1) ≤ n) then (n : Int) - 2 ^ (8 * t.width) else n

/-- The entry a descriptor word gives from a payload: ABSENT when its offset is above 63, its type code
is not listed (R73), or its field is not wholly inside the payload (R75). -/
def extractEntry (payload : List Byte) (w : Word) : Option Value :=
  let offset := wordField w 8 8
  if 63 < offset then none
  else
    match ValueType.ofCode (wordField w 0 8) with
    | none => none
    | some t =>
      if offset + t.width ≤ payload.length then
        some ⟨t, t.assemble ((payload.drop offset).take t.width)⟩
      else none

/-- The first word of class `c`'s block on its page (R36, R72). -/
def classBase (c : Nat) : Nat := 32 * (c % 8)

/-- The Field Map page of a class (R36). -/
def fieldMapPage (c : Nat) : Nat := 2 + c / 8

/-- The Trigger Set page of a class (R36). -/
def triggerSetPage (c : Nat) : Nat := 6 + c / 8

/-- The descriptor count of a map: a count word above 8 is taken as 0 (R73). -/
def mapCount (page : Nat → Word) (c : Nat) : Nat :=
  let n := (page (classBase c)).toNat
  if n ≤ 8 then n else 0

/-- The value list of a payload under the Field Map of class `c` (R78). -/
def valueList (page : Nat → Word) (c : Nat) (payload : List Byte) : List (Option Value) :=
  (wordsFrom page (classBase c + 1) (mapCount page c)).map (extractEntry payload)

/-- The kind a kind word names; an unlisted encoding is read as NONE (R93). -/
def CondKind.ofWord (w : Word) : CondKind :=
  match w.toNat with
  | 1 => .always
  | 2 => .every
  | 3 => .above
  | 4 => .below
  | 5 => .change
  | 6 => .first
  | 7 => .seqGap
  | _ => .none

/-- Condition `i` of class `c` as its words stand (R93, 11.6). -/
def readCond (page : Nat → Word) (c i : Nat) : Cond :=
  let b := classBase c + 8 * i
  { kind := CondKind.ofWord (page b), field := (page (b + 1)).toNat,
    a := ((page (b + 2)) ++ (page (b + 3))).toInt, b := (page (b + 4)).toNat }

/-- The four conditions of a class (R68). -/
def readConds (page : Nat → Word) (c : Nat) : List Cond := [0, 1, 2, 3].map (readCond page c)

end Sys2Proof.Machine
end

