-- ==== Sys2Proof/Machine/Formats.lean ====
section
/-! DEFINITION. The byte layouts of replies and records (11.2 to 11.5). -/

namespace Sys2Proof.Machine

/-- The result codes (11.2). -/
inductive ResultCode where
  | ok | noNew | emptySlot | unknownRequest | badLength | range | notManager | noSession
  | sessionHeld | noOverride | guardLow | busy | idle | locked | notLocked | storeFault
  | checkMismatch | pinned | state | full | notArmed | stale
  deriving DecidableEq, Repr

/-- The value of a result code (11.2). -/
def ResultCode.code : ResultCode → Byte
  | .ok => 0x00
  | .noNew => 0x01
  | .emptySlot => 0x02
  | .unknownRequest => 0x03
  | .badLength => 0x04
  | .range => 0x05
  | .notManager => 0x06
  | .noSession => 0x07
  | .sessionHeld => 0x08
  | .noOverride => 0x09
  | .guardLow => 0x0A
  | .busy => 0x0B
  | .idle => 0x0C
  | .locked => 0x0D
  | .notLocked => 0x0E
  | .storeFault => 0x0F
  | .checkMismatch => 0x10
  | .pinned => 0x11
  | .state => 0x12
  | .full => 0x13
  | .notArmed => 0x14
  | .stale => 0x15

/-- A reply payload: request code, result code, contents (11.2). -/
def replyPayload (r : Request) (c : ResultCode) (contents : List Byte) : List Byte :=
  r.codeByte :: c.code :: contents

/-- Capture state encoding (11.4). -/
def CaptureState.code : CaptureState → Byte
  | .idle => 0
  | .armed => 1
  | .full => 2
  | .stopped => 3

/-- Mode encoding (11.4). -/
def Mode.code : Mode → Byte
  | .wrap => 0
  | .fill => 1

/-- Stop reason encoding (11.4). -/
def StopReason.code : StopReason → Byte
  | .none => 0
  | .request => 1
  | .limit => 2
  | .restart => 3

/-- Page state encoding (11.4). -/
def PageState.code : PageState → Nat
  | .erased => 0
  | .valid => 1
  | .invalid => 2

/-- Phase encoding, within "engine and phase" (11.4). -/
def Phase.code : Phase → Byte
  | .erasing => 1
  | .writing => 2
  | .verifying => 3
  | .locking => 4

/-- Engine and phase encoding: READY 0 (11.4). -/
def engineByte : Option Operation → Byte
  | none => 0
  | some o => o.phase.code

/-- Operation encoding (11.4). -/
def OpKind.code : OpKind → Byte
  | .program => 1
  | .erase => 2
  | .unlockErase => 3
  | .lock => 4

/-- Fault latch encoding (11.4). -/
def Latch.code : Latch → Byte
  | .none => 0
  | .verifyFail => 1
  | .eraseFail => 2
  | .aborted => 3
  | .guardLost => 4

/-- Last-result outcome encoding (11.4). -/
def Ending.code : Ending → Byte
  | .done => 0
  | .verifyFail => 1
  | .eraseFail => 2
  | .aborted => 3
  | .guardLost => 4

/-- Profile state encoding (11.4). -/
def ProfileState.code : ProfileState → Byte
  | .absent => 0
  | .loaded => 1
  | .rejected _ => 2

/-- The rejected field's index, 0 when none (11.5). -/
def ProfileState.index : ProfileState → Nat
  | .rejected i => i
  | _ => 0

/-- A page byte: page state in bits 1..0, lock flag in bit 7 (11.4). -/
def Store.pageByte (t : Store) (p : Nat) : Byte :=
  byteOf ((t.state p).code + if t.isLocked p then 128 else 0)

/-- An optional page number: 255 for none (11.5). -/
def pageNumByte : Option Nat → Byte
  | some n => byteOf n
  | none => 255

/-- The four type bytes of a FRAME record: a code per entry, two per byte, the even entry in the high
half, ABSENT and the halves beyond the list 0 (11.3). -/
def typeBytes (values : List (Option Value)) : List Byte :=
  let code := fun (i : Nat) => match values.getD i none with | some v => v.type.code | none => 0
  [0, 1, 2, 3].map fun i => byteOf (16 * code (2 * i) + code (2 * i + 1))

/-- The bytes of a present value, in its type's width, two's complement (11.3). -/
def Value.bytes (v : Value) : List Byte :=
  bytesOf v.type.width (v.val % 2 ^ (8 * v.type.width)).toNat

/-- The bytes of the present values, in entry order (11.3). -/
def valueBytes : List (Option Value) → List Byte
  | [] => []
  | none :: rest => valueBytes rest
  | some v :: rest => v.bytes ++ valueBytes rest

/-- The fired set as bits 3..0 (11.3). -/
def firedBits (fired : List Nat) : Nat :=
  ([0, 1, 2, 3].map fun i => if i ∈ fired then 2 ^ i else 0).sum

/-- Kind encoding of a record (11.3). -/
def RecordBody.code : RecordBody → Nat
  | .start .. => 1
  | .stop .. => 2
  | .frame .. => 3
  | .mark .. => 4
  | .gap .. => 5

/-- A record's bytes from byte 11 on, by kind (11.3). -/
def RecordBody.bytes : RecordBody → List Byte
  | .start mode limit => mode.code :: bytesOf 2 limit
  | .stop reason => [reason.code]
  | .frame cls cause fired source seq values =>
    [byteOf cls, byteOf (16 * cause + firedBits fired), source, seq, byteOf values.length]
      ++ typeBytes values ++ valueBytes values
  | .mark requester text => requester :: text
  | .gap missed => bytesOf 4 missed.toNat

/-- A record as delivered (11.3). -/
def Record.bytes (r : Record) : List Byte :=
  byteOf (r.body.code + if r.stamp.synced then 128 else 0)
    :: (bytesOf 4 r.serial.toNat ++ bytesOf 6 r.stamp.time.toNat ++ r.body.bytes)

/-- The bytes of the record in a slot: none for EMPTY. -/
def slotBytes : Option Record → List Byte
  | some r => r.bytes
  | none => []

/-- The read header of READ-NEXT and READ-BLOCK (11.3): the more flag is set while U is above 0 after
the slot was taken (R134). -/
def readHeader (slot unread position count : Nat) (overwritten : Count) : List Byte :=
  bytesOf 2 slot ++ bytesOf 2 (unread + if 0 < unread then 32768 else 0)
    ++ [byteOf (16 * (position - 1) + (count - 1))] ++ bytesOf 4 overwritten.toNat

/-- The slot and serial of a record written, zero when none was (11.2). -/
def writtenBytes : Option (Nat × Count) → List Byte
  | some (slot, serial) => bytesOf 2 slot ++ bytesOf 4 serial.toNat
  | none => bytesOf 2 0 ++ bytesOf 4 0

/-- The capture part of STATUS, bytes 25 to 49 (11.5, R129). -/
def Capture.statusBytes (c : Capture) : List Byte :=
  [c.state.code, c.mode.code] ++ bytesOf 2 c.wc ++ bytesOf 2 c.rc ++ bytesOf 2 c.unread
    ++ bytesOf 4 c.nextSerial.toNat ++ bytesOf 2 c.limit ++ bytesOf 2 c.limitCount
    ++ bytesOf 4 c.missed.toNat ++ bytesOf 4 c.overwritten.toNat ++ [c.stopReason.code]

/-- The store part of STATUS, bytes 50 to 58 (11.5): page states two per byte, the even page in the
high half, the last low half 0. -/
def Store.statusBytes (t : Store) : List Byte :=
  let half := fun (p : Nat) => if p ≤ 10 then (t.state p).code else 0
  [engineByte t.engine, pageNumByte (t.engine.map (·.page)), t.latch.code]
    ++ [0, 1, 2, 3, 4, 5].map fun i => byteOf (16 * half (2 * i) + half (2 * i + 1))

/-- The Time Base's part of STATUS, bytes 16 to 23 (11.5). -/
def TimeBase.statusBytes (t : TimeBase) : List Byte :=
  flagByte t.synced :: (bytesOf 6 t.linkTime.toNat ++ [nodeByte t.timeMaster])

/-- A port's part of STATUS, within byte 24 (11.5). -/
def linkByte (p : Port) (x : PortState) : List Byte :=
  [match x.link, p with | .up, .U => 1 | .up, .D => 2 | .down, _ => 0]

/-- A count in four bytes. -/
def countBytes (c : Count) : List Byte := bytesOf 4 c.toNat

/-- The eight counters of a port in the order of R188. -/
def PortState.counterBytes (x : PortState) : List Byte :=
  countBytes x.rxGood ++ countBytes x.rxCheckErr ++ countBytes x.rxFormatErr ++ countBytes x.txFrames
    ++ countBytes x.transitDropFull ++ countBytes x.transitDropDown ++ countBytes x.replyLost
    ++ countBytes x.requestDrop

/-- The class counts from `lo` on, `n` of them (R188). -/
def Classifier.classBytes (c : Classifier) (lo n : Nat) : List Byte :=
  (List.range n).flatMap fun i => countBytes (Cells.read 0 c.classCount (lo + i))

/-- The Classifier's counters of a group (R188). -/
def Classifier.counterBytes (c : Classifier) (group : Nat) : List Byte :=
  match group with
  | 1 => countBytes c.unmatched ++ countBytes c.unresolved ++ countBytes c.holdDiscard ++ countBytes c.toSelf
  | 2 => c.classBytes 0 12
  | 3 => c.classBytes 12 12
  | 4 => c.classBytes 24 8
  | _ => []

end Sys2Proof.Machine
end

