-- ==== Sys2Proof/Machine/Replies.lean ====
section
/-! DEFINITION. Building and placing reply frames, the Retry Cache, and the taking of a dispatched
request at its owner (R177 to R182). -/

namespace Sys2Proof.Machine

/-- A reply frame: a MGMT-RSP to the requester, with the own address in force at building and the
sequence of the request (R3, R179). -/
def Agent.buildReply (a : Agent) (r : Request) (payload : List Byte) : Frame :=
  Frame.build r.source a.profile.address .mgmtRsp r.seq payload

/-- Frames as ordinary entries of a Reply Queue. -/
def plainReplies (fs : List Frame) : List Reply := fs.map fun f => ⟨f, 0⟩

/-- Frames placed on a port's Reply Queue in their order (R180). -/
def placeFrames (p : Port) (fs : List Frame) (s : State) : State :=
  s.onPort p (PortState.placeAll (plainReplies fs))

/-! ### The Retry Cache -/

/-- The entry of a requester (R181). -/
def cacheFind (node : Byte) (c : List CacheEntry) : Option CacheEntry := c.find? fun e => e.node == node

/-- An entry made the most recently used (R181, R182). -/
def cacheUse (e : CacheEntry) (c : List CacheEntry) : List CacheEntry :=
  e :: c.filter fun x => x.node != e.node

/-- The entry for a request that passes step 5 of R177: the requester's own entry, a free one, or the
least recently used one, pending under a new id (R182). -/
def cacheTake (r : Request) (id : Nat) (c : List CacheEntry) : List CacheEntry :=
  ({ node := r.source, seq := r.seq, id := id, frames := none } : CacheEntry)
    :: (c.filter fun x => x.node != r.source).take (Config.cacheRoom - 1)

/-- The frames of a request placed: its entry takes them when it is still the one made for the
request, and is then the most recently used (R182). -/
def cacheFill (id : Nat) (fs : List Frame) (c : List CacheEntry) : List CacheEntry :=
  match c.find? fun e => e.id == id with
  | none => c
  | some e => cacheUse { e with frames := some fs } c

/-! ### Answers -/

/-- The answer to a request placed: what it held of the reservation is given back, its frames are
placed in their order on the arrival port, and its cache entry takes them (R180, R182). -/
def answer (r : Request) (entry held : Nat) (payloads : List (List Byte)) (s : State) : State :=
  let frames := payloads.map (s.agent.buildReply r)
  (s.onPort r.port fun x =>
      PortState.placeAll (plainReplies frames) { x with reservation := x.reservation - held }).withAgent
    { s.agent with cache := cacheFill entry frames s.agent.cache }

/-- A reply placed at the intake event that the Retry Cache does not keep (R177 steps 2 to 4). -/
def replyUncached (r : Request) (payload : List Byte) (s : State) : State :=
  placeFrames r.port [s.agent.buildReply r payload] s

/-! ### Dispatch -/

/-- The frames a dispatch holds are added to the arrival port's reservation (R180). -/
def hold (p : Port) (n : Nat) (s : State) : State :=
  s.onPort p fun x => { x with reservation := x.reservation + n }

/-- A request dispatched to its owner with `held` reply frames held for it (R179, R180). -/
def dispatchTo (b : Block) (r : Request) (entry held : Nat) (s : State) : State :=
  let s' := hold r.port held s
  s'.withAgent { s'.agent with dispatched := s'.agent.dispatched ++ [⟨b, r, entry, held, none⟩] }

/-- The next request or part that a block takes: the oldest dispatched to it (R179). -/
def Agent.nextFor (a : Agent) (b : Block) : Option Dispatch := a.dispatched.find? fun d => d.dest == b

/-- That request or part taken. -/
def Agent.takeNext (a : Agent) (b : Block) : Agent :=
  { a with dispatched := a.dispatched.eraseP fun d => d.dest == b }

/-- The event of a request at its owner: the oldest request dispatched to the block, when it is one of
the named kind, is taken, carried out, and answered (R179, R180). -/
def ownerEvent (b : Block) (k : ReqKind) (carry : Dispatch → State → State × List (List Byte))
    (s : State) : State :=
  match s.agent.nextFor b with
  | none => s
  | some d =>
    if d.gather = none ∧ d.request.kind = some k then
      let out := carry d (s.withAgent (s.agent.takeNext b))
      answer d.request d.entry d.held out.2 out.1
    else s

/-- A refusal: the state as it was and the two header bytes (11.2). -/
def refuse (r : Request) (c : ResultCode) (s : State) : State × List (List Byte) :=
  (s, [replyPayload r c []])

/-- One OK reply frame with its contents. -/
def okWith (r : Request) (contents : List Byte) (s : State) : State × List (List Byte) :=
  (s, [replyPayload r .ok contents])

end Sys2Proof.Machine
end

