-- ==== Sys2Proof/Machine/Capture.lean ====
section
/-! DEFINITION. The Capture Unit: writing records, the capture states and the capture requests
(chapter 7). -/

namespace Sys2Proof.Machine

/-- The pre-increment step of both cursors (R110). -/
def nextSlot (x : Nat) : Nat := if x = 0 ∨ x = Config.lastSlot then 1 else x + 1

/-- The content of a slot: none for EMPTY (R109). -/
def Capture.slot (c : Capture) (i : Nat) : Option Record := Cells.read none c.ring i

/-- The record goes to next(WC), takes the next serial, and WC moves there (R117, R112). -/
def Capture.put (c : Capture) (stamp : Stamp) (body : RecordBody) : Capture :=
  { c with ring := Cells.write none c.ring (nextSlot c.wc) (some ⟨c.nextSerial, stamp, body⟩),
           wc := nextSlot c.wc, nextSerial := serialAfter c.nextSerial }

/-- Whether a write can be made: always but in FILL at U = 1022 (R117). -/
def Capture.canWrite (c : Capture) : Bool := decide (c.unread < Config.unreadMax) || c.mode == .wrap

/-- A write (R117). In WRAP at U = 1022 the oldest unread record is given up first. In FILL at U = 1022
no write occurs, and the model writes nothing (log entry 23). -/
def Capture.write (c : Capture) (stamp : Stamp) (body : RecordBody) : Capture :=
  if c.unread < Config.unreadMax then { c.put stamp body with unread := c.unread + 1 }
  else
    match c.mode with
    | .wrap => { c with rc := nextSlot c.rc, overwritten := bump c.overwritten }.put stamp body
    | .fill => c

/-- The slot and serial that a write gives its record. -/
def Capture.nextWritten (c : Capture) : Nat × Count := (nextSlot c.wc, c.nextSerial)

/-- Whether the capture is to become FULL: ARMED, FILL and U at 1022 (R118). -/
def Capture.fills (c : Capture) : Bool :=
  c.state == .armed && c.mode == .fill && c.unread == Config.unreadMax

/-- The capture becomes FULL at the event that fills it, and CAPTURE-FULL is raised (R118). -/
def settleFull (s : State) : State :=
  if s.capture.fills then raise .captureFull (s.withCapture { s.capture with state := .full }) else s

/-- A notice sent to the Trigger Unit, behind those on their way (R88). -/
def sendNotice (n : Notice) (s : State) : State :=
  s.withTrigger { s.trigger with notices := s.trigger.notices ++ [n] }

/-- The capture STOPPED for a reason, its STOP notice sent (R115). -/
def stopWith (reason : StopReason) (s : State) : State :=
  sendNotice .stop (s.withCapture { s.capture with state := .stopped, stopReason := reason })

/-! ### Record requests -/

/-- The body of the FRAME record of a request (R114). -/
def RecordRequest.body (q : RecordRequest) : RecordBody :=
  .frame q.cls q.cause q.fired q.source q.seq q.values

/-- Whether a FRAME write raises the limit count to a record limit above 0 (R121). -/
def Capture.limitReached (c : Capture) : Bool := decide (0 < c.limit) && c.limitCount + 1 == c.limit

/-- A FRAME record written from a request, with its limit count (R119). -/
def Capture.writeFrame (c : Capture) (q : RecordRequest) : Capture :=
  { c.write q.stamp q.body with limitCount := min (c.limitCount + 1) 65535 }

/-- The stop by the record limit, after the FRAME record (R121). -/
def limitStop (s : State) : State :=
  raise .captureStopped
    (stopWith .limit (s.withCapture (s.capture.write (stampNow s) (.stop .limit))))

/-- A record request at the Capture Unit (R119). -/
def takeRequest (q : RecordRequest) (s : State) : State :=
  match s.capture.state with
  | .armed =>
    let s' := s.withCapture (s.capture.writeFrame q)
    if s.capture.limitReached then limitStop s' else settleFull s'
  | .full => s.withCapture { s.capture with missed := bump s.capture.missed }
  | .idle => s
  | .stopped => s

/-- The arrival of the record request in the hand-off, which becomes empty (R91, R119). -/
def requestArrive (s : State) : State :=
  match s.trigger.handOff with
  | none => s
  | some q => takeRequest q (s.withTrigger { s.trigger with handOff := none })

/-! ### Arming and stopping -/

/-- Whether CAPTURE-ARM is refused, in the order of R122. -/
def Capture.armRefusal (c : Capture) : Option ResultCode :=
  if c.state = .armed ∨ c.state = .full then some .state
  else if c.canWrite then none else some .full

/-- The accepted ARM (R122). -/
def armCapture (limit : Nat) (s : State) : State :=
  let c := { s.capture with missed := 0, limitCount := 0, limit := limit, stopReason := .none,
                            state := .armed }
  settleFull (sendNotice .arm (s.withCapture (c.write (stampNow s) (.start c.mode limit))))

/-- Autostart: CAPTURE-ARM with no limit and no reply; refused, it changes nothing (R122). -/
def autoArm (s : State) : State :=
  match s.capture.armRefusal with
  | none => armCapture 0 s
  | some _ => s

/-- A stop from ARMED, with its STOP record, or from FULL, without one (R123, R131). -/
def stopCapture (reason : StopReason) (s : State) : State :=
  match s.capture.state with
  | .armed => stopWith reason (s.withCapture (s.capture.write (stampNow s) (.stop reason)))
  | .full => stopWith reason s
  | .idle => s
  | .stopped => s

/-- The slot and serial of the STOP record a stop writes, if it writes one (R123). -/
def Capture.stopWritten (c : Capture) : Option (Nat × Count) :=
  if c.state = .armed ∧ c.canWrite then some c.nextWritten else none

/-- The accepted CLEAR (R124). -/
def Capture.cleared (c : Capture) : Capture := Capture.atPor c.mode

/-- The mode a CAPTURE-MODE byte names (R125, R196). -/
def modeOf : Nat → Option Mode
  | 0 => some .wrap
  | 1 => some .fill
  | _ => none

/-- The record limit a CAPTURE-ARM carries, 0 when it carries none (R122). -/
def Request.limit (r : Request) : Nat := if r.payload.length = 3 then r.field2 1 else 0

/-! ### The five capture requests at the Capture Unit -/

/-- CAPTURE-ARM (R122). -/
def carryArm (d : Dispatch) (s : State) : State × List (List Byte) :=
  match s.capture.armRefusal with
  | some c => refuse d.request c s
  | none =>
    (armCapture d.request.limit s,
      [replyPayload d.request .ok (writtenBytes (some s.capture.nextWritten))])

/-- CAPTURE-STOP (R123). -/
def carryStop (d : Dispatch) (s : State) : State × List (List Byte) :=
  if s.capture.state = .armed ∨ s.capture.state = .full then
    (stopCapture .request s, [replyPayload d.request .ok (writtenBytes s.capture.stopWritten)])
  else refuse d.request .state s

/-- CAPTURE-CLEAR (R124). -/
def carryClear (d : Dispatch) (s : State) : State × List (List Byte) :=
  if s.capture.state = .armed ∨ s.capture.state = .full then refuse d.request .state s
  else okWith d.request [] (sendNotice .clear (s.withCapture s.capture.cleared))

/-- CAPTURE-MODE (R125). -/
def carryMode (d : Dispatch) (s : State) : State × List (List Byte) :=
  match modeOf (d.request.field 1) with
  | none => refuse d.request .range s
  | some m =>
    if s.capture.state = .armed ∨ s.capture.state = .full then refuse d.request .state s
    else okWith d.request [] (s.withCapture { s.capture with mode := m })

/-- CAPTURE-MARK (R126). -/
def carryMark (d : Dispatch) (s : State) : State × List (List Byte) :=
  match s.capture.state with
  | .idle => refuse d.request .notArmed s
  | .stopped => refuse d.request .notArmed s
  | .full => refuse d.request .full s
  | .armed =>
    (settleFull (s.withCapture
        (s.capture.write (stampNow s) (.mark d.request.source (d.request.payload.drop 1)))),
      [replyPayload d.request .ok (writtenBytes (some s.capture.nextWritten))])

/-! ### Meanings -/

/-- RECORD_REQUEST_ARRIVAL (R119). -/
def execRecordRequestArrival (s : State) : Host.Outcome State Fault Refusal :=
  .next (s.ifPowered requestArrive)

end Sys2Proof.Machine
end

