-- ==== Sys2Proof/Machine/Reading.lean ====
section
/-! DEFINITION. Reading the capture (chapter 8): READ-NEXT, READ-BLOCK, READ-SLOT and
SET-READ-CURSOR at the Capture Unit. -/

namespace Sys2Proof.Machine

/-- One cursor read: RC moves to next(RC) and U falls by 1 (R135, R137). -/
def Capture.advance (c : Capture) : Capture := { c with rc := nextSlot c.rc, unread := c.unread - 1 }

/-- `k` cursor reads. -/
def Capture.advanceBy : Nat → Capture → Capture
  | 0, c => c
  | k + 1, c => Capture.advanceBy k c.advance

/-- The contents of the reply frame for the slot a cursor read has just reached: OK with the record, or
EMPTY-SLOT with the slot number (R134, R135). `c` is the capture after the cursor read. -/
def Capture.delivery (c : Capture) (r : Request) (position count : Nat) : List Byte :=
  let header := readHeader c.rc c.unread position count c.overwritten
  match c.slot c.rc with
  | some x => replyPayload r .ok (header ++ x.bytes)
  | none => replyPayload r .emptySlot header

/-- The frames of a block: `n` of them from the capture `c` on, positions `count - n + 1 .. count`
(R137). -/
def Capture.deliveries (r : Request) (count : Nat) : Nat → Capture → List (List Byte)
  | 0, _ => []
  | n + 1, c => c.advance.delivery r (count - n) count :: Capture.deliveries r count n c.advance

/-- NO-NEW: the slot at RC, more clear, unread 0, one frame (R134, R135). -/
def Capture.noNew (c : Capture) (r : Request) : List Byte :=
  replyPayload r .noNew (readHeader c.rc 0 1 1 c.overwritten)

/-- Whether a FULL capture is to resume (R120, R140). -/
def Capture.resumes (c : Capture) : Bool := c.state == .full && decide (c.unread ≤ Config.resumeAt)

/-- The capture resumed when it is FULL and U is 1006 or below: ARMED, with a GAP record when the missed
count is above 0 (R120). -/
def resume (s : State) : State :=
  if s.capture.resumes then
    let c := { s.capture with state := .armed }
    if c.missed = 0 then s.withCapture c
    else s.withCapture { c.write (stampNow s) (.gap c.missed) with missed := 0 }
  else s

/-- The slot and serial of the GAP record that `resume` writes, if it writes one (R142). -/
def Capture.gapWritten (c : Capture) : Option (Nat × Count) :=
  if c.resumes ∧ c.missed ≠ 0 then some c.nextWritten else none

/-- `k` records taken by cursor reads at one event, then the resume if it falls due (R137, R140). -/
def readOut (k : Nat) (s : State) : State := resume (s.withCapture (s.capture.advanceBy k))

/-- READ-NEXT (R135). -/
def carryReadNext (d : Dispatch) (s : State) : State × List (List Byte) :=
  if s.capture.unread = 0 then (s, [s.capture.noNew d.request])
  else (readOut 1 s, Capture.deliveries d.request 1 1 s.capture)

/-- The number of records a READ-BLOCK of `n` delivers (R136). -/
def blockSize (n limit unread allowance : Nat) : Nat := min (min n limit) (min unread allowance)

/-- READ-BLOCK (R136): its allowance is the reply frames held for it at dispatch (R138). -/
def carryReadBlock (d : Dispatch) (s : State) : State × List (List Byte) :=
  let n := d.request.field 1
  if n = 0 ∨ 16 < n then refuse d.request .range s
  else if s.capture.unread = 0 then (s, [s.capture.noNew d.request])
  else
    let k := blockSize n s.agent.profile.blockLimit s.capture.unread d.held
    (readOut k s, Capture.deliveries d.request k k s.capture)

/-- READ-SLOT (R141). -/
def carryReadSlot (d : Dispatch) (s : State) : State × List (List Byte) :=
  let i := d.request.field2 1
  if i = 0 ∨ Config.lastSlot < i then refuse d.request .range s
  else
    let c := s.capture
    let head := bytesOf 2 i ++ bytesOf 2 c.wc ++ bytesOf 2 c.rc ++ bytesOf 2 c.unread
    match c.slot i with
    | some x => (s, [replyPayload d.request .ok (head ++ x.bytes)])
    | none => (s, [replyPayload d.request .emptySlot head])

/-- The number of next() steps from slot `c` to WC, when WC can be reached in at most 1022 of them
(R142). -/
def stepsTo (c wc : Nat) : Option Nat :=
  if c = wc then some 0
  else if c = 0 then (if wc ≤ Config.unreadMax then some wc else none)
  else if wc = 0 then none
  else if c < wc then some (wc - c)
  else some (wc + Config.lastSlot - c)

/-- SET-READ-CURSOR to an admitted slot: RC and U anew, then the resume or the filling that the new U
brings (R142, R143). -/
def setCursor (slot unread : Nat) (s : State) : State :=
  let s' := s.withCapture { s.capture with rc := slot, unread := unread }
  if s.capture.state = .armed then settleFull s' else resume s'

/-- The slot and serial of the GAP record that SET-READ-CURSOR writes, if it writes one (R142). -/
def Capture.cursorGap (c : Capture) (slot unread : Nat) : Option (Nat × Count) :=
  ({ c with rc := slot, unread := unread } : Capture).gapWritten

/-- SET-READ-CURSOR (R142). -/
def carrySetCursor (d : Dispatch) (s : State) : State × List (List Byte) :=
  let i := d.request.field2 1
  if Config.lastSlot < i then refuse d.request .range s
  else
    match stepsTo i s.capture.wc with
    | none => refuse d.request .range s
    | some u =>
      let s' := setCursor i u s
      (s', [replyPayload d.request .ok
        (bytesOf 2 s'.capture.rc ++ bytesOf 2 s'.capture.wc ++ bytesOf 2 s'.capture.unread
          ++ [s'.capture.state.code] ++ writtenBytes (s.capture.cursorGap i u))])

end Sys2Proof.Machine
end

