-- ==== Sys2Proof/Machine/Resolver.lean ====
section
/-! DEFINITION. The requests the Page Resolver owns (3.6): TUNE-WRITE, TUNE-READ, WINDOW-SET,
WINDOW-READ and PAGE-READ at the Resolver. -/

namespace Sys2Proof.Machine

/-- The three range checks of a words request: a page number below `pages`, a count of 1..28, and
offset + count of 256 or less (R47, R49, R53). -/
def wordsInRange (pages : Nat) (r : Request) : Bool :=
  decide (r.field 1 < pages) && decide (1 ≤ r.field 3) && decide (r.field 3 ≤ Config.maxWords)
    && decide (r.field 2 + r.field 3 ≤ pageSize)

/-- The words of a tuning page replaced from an offset on (R47). -/
def Resolver.tune (x : Resolver) (t offset : Nat) (ws : List Word) : Resolver :=
  { x with tuning := Cells.writeAll 0 x.tuning (pageSize * t + offset) ws }

/-- The words a TUNE-WRITE carries. -/
def Request.words (r : Request) : List Word := wordsOf (r.payload.drop 4)

/-- TUNE-WRITE (R47). -/
def carryTuneWrite (d : Dispatch) (s : State) : State × List (List Byte) :=
  let r := d.request
  if !wordsInRange 4 r then refuse r .range s
  else if s.resolver.pinned (r.field 1) then refuse r .pinned s
  else okWith r [] (s.withResolver (s.resolver.tune (r.field 1) (r.field 2) r.words))

/-- TUNE-READ (R49). -/
def carryTuneRead (d : Dispatch) (s : State) : State × List (List Byte) :=
  let r := d.request
  if !wordsInRange 4 r then refuse r .range s
  else
    okWith r ([byteOf (r.field 1), flagByte (s.resolver.pinned (r.field 1)), byteOf (r.field 2),
        byteOf (r.field 3)]
      ++ wordsBytes (wordsFrom (s.resolver.word (r.field 1)) (r.field 2) (r.field 3))) s

/-- A window set whole (R50). -/
def Resolver.setWindow (x : Resolver) (w : Nat) (v : Window) : Resolver :=
  { x with windows := Cells.write Window.atPor x.windows w v }

/-- The window a WINDOW-SET carries (R50, R196). -/
def Request.window (r : Request) : Window := ⟨r.flag 2, r.field 3, r.field 4⟩

/-- WINDOW-SET (R50). -/
def carryWindowSet (d : Dispatch) (s : State) : State × List (List Byte) :=
  let r := d.request
  if 3 < r.field 1 then refuse r .range s
  else if r.field 3 = 0 ∨ 10 < r.field 3 then refuse r .range s
  else if 3 < r.field 4 then refuse r .range s
  else okWith r [] (s.withResolver (s.resolver.setWindow (r.field 1) r.window))

/-- Whether window `w` is in force (R40, R52). -/
def Resolver.isInForce (x : Resolver) (w : Nat) : Bool :=
  (x.window w).enabled && x.inForce (x.window w).target == some w

/-- WINDOW-READ (R52). -/
def carryWindowRead (d : Dispatch) (s : State) : State × List (List Byte) :=
  let r := d.request
  let w := r.field 1
  if 3 < w then refuse r .range s
  else
    let v := s.resolver.window w
    okWith r [byteOf w, flagByte v.enabled, byteOf v.target, byteOf v.page,
      flagByte (s.resolver.isInForce w), flagByte (s.resolver.pinned v.page)] s

/-- Whether a page is the page of the operation in flight, of any kind (R53). -/
def Store.inFlight (t : Store) (p : Nat) : Bool :=
  match t.engine with
  | none => false
  | some o => o.page == p

/-- PAGE-READ (R53). -/
def carryPageRead (d : Dispatch) (s : State) : State × List (List Byte) :=
  let r := d.request
  if !wordsInRange 11 r then refuse r .range s
  else if s.store.inFlight (r.field 1) then refuse r .busy s
  else
    okWith r ([byteOf (r.field 1), s.store.pageByte (r.field 1), byteOf (r.field 2), byteOf (r.field 3)]
      ++ wordsBytes (wordsFrom (s.store.readWord (r.field 1)) (r.field 2) (r.field 3))) s

/-- Windows W0 to W3 disabled, their targets and tuning pages kept (R55). -/
def Resolver.restart (x : Resolver) : Resolver :=
  [0, 1, 2, 3].foldl (fun y w => y.setWindow w { y.window w with enabled := false }) x

end Sys2Proof.Machine
end

