-- ==== Sys2Proof/Machine/TableStore.lean ====
section
/-! DEFINITION. The Table Store (chapter 9): its requests, the completion of phases, abort and guard
loss. -/

namespace Sys2Proof.Machine

/-! ### The ends of operations -/

/-- Duration of a phase (R154), in bit times. -/
def Phase.duration : Phase → Nat
  | .erasing => 8 * Config.bitsPerMilli
  | .writing => 6 * Config.bitsPerMilli
  | .verifying => 1 * Config.bitsPerMilli
  | .locking => 2 * Config.bitsPerMilli

/-- The first phase of an operation (9.2). -/
def OpKind.firstPhase : OpKind → Phase
  | .lock => .locking
  | _ => .erasing

/-- Milliseconds from acceptance to completion (R158). -/
def OpKind.millis : OpKind → Nat
  | .program => 15
  | .erase => 8
  | .unlockErase => 8
  | .lock => 2

/-- The fault latch after an operation that ends so (R155). -/
def Ending.latch : Ending → Latch
  | .done => .none
  | .verifyFail => .verifyFail
  | .eraseFail => .eraseFail
  | .aborted => .aborted
  | .guardLost => .guardLost

/-- The store at the end of an operation: READY, the latch, and the last-result record with Link Time at
the end event (R153, R155, R156). A success leaves the latch unchanged. -/
def Store.ended (t : Store) (o : Operation) (e : Ending) (time : Micros) : Store :=
  { t with engine := none, latch := if e = .done then t.latch else e.latch,
           last := some ⟨o.kind, o.page, o.source, e, o.phase, time⟩ }

/-- The pin of a program's source cleared (R45). -/
def Resolver.unpin (x : Resolver) : Option Nat → Resolver
  | some t => x.setPin t false
  | none => x

/-- The end of the operation in flight, at the bridge: the store, and the pin of its source. -/
def endOperation (o : Operation) (e : Ending) (s : State) : State :=
  (s.withStore (s.store.ended o e s.time.linkTime)).withResolver (s.resolver.unpin o.source)

/-! ### Acceptance -/

/-- The acceptance of an operation that erases: the page becomes INVALID and its erase count is raised
(R150, R151). -/
def Store.condemn (t : Store) (p : Nat) : Store :=
  { t with pageState := Cells.write .erased t.pageState p .invalid,
           eraseCount := Cells.write 0 t.eraseCount p (bumpErase (t.erases p)) }

/-- The engine begins an operation (R153). -/
def Store.begin (t : Store) (k : OpKind) (p : Nat) (source : Option Nat) : Store :=
  { t with engine := some ⟨k, p, source, k.firstPhase, k.firstPhase.duration⟩ }

/-- Whether the requester owns the session, as its record stands (R158 step 1). -/
def Agent.ownedBy (a : Agent) (node : Byte) : Bool :=
  match a.session with
  | some x => x.owner == node
  | none => false

/-- Whether the session was opened with the override flag (R163). -/
def Agent.overriding (a : Agent) : Bool :=
  match a.session with
  | some x => x.override
  | none => false

/-- Steps 1 to 5 of R158 for a request naming page `p`: the first refusal, if any. -/
def operationRefusal (node : Byte) (p : Nat) (s : State) : Option ResultCode :=
  if !s.agent.ownedBy node then some .noSession
  else if !s.store.guard then some .guardLow
  else if s.store.engine ≠ none then some .busy
  else if s.store.latch ≠ .none then some .storeFault
  else if 10 < p then some .range
  else none

/-- CRC-16 of a tuning page: word 0 first, each word high byte first (R4, R159). -/
def Resolver.pageCheck (x : Resolver) (t : Nat) : Word := crc16 (wordsBytes (wholePage (x.word t)))

/-- Step 6 for STORE-PROGRAM (R159). -/
def programRefusal (r : Request) (s : State) : Option ResultCode :=
  if 3 < r.field 2 then some .range
  else if s.store.isLocked (r.field 1) then some .locked
  else if s.resolver.pageCheck (r.field 2) ≠ BitVec.ofNat 16 (r.field2 3) then some .checkMismatch
  else none

/-- Step 6 for STORE-ERASE (R161). -/
def eraseRefusal (r : Request) (s : State) : Option ResultCode :=
  if s.store.isLocked (r.field 1) then some .locked else none

/-- Step 6 for STORE-LOCK (R162). -/
def lockRefusal (r : Request) (s : State) : Option ResultCode :=
  if s.store.isLocked (r.field 1) then some .locked
  else if s.store.state (r.field 1) = .invalid then some .state
  else none

/-- Step 6 for STORE-UNLOCK-ERASE (R163). -/
def unlockRefusal (r : Request) (s : State) : Option ResultCode :=
  if !s.agent.overriding then some .noOverride
  else if !s.store.isLocked (r.field 1) then some .notLocked
  else none

/-- The reply of an accepted operation: operation, page, page byte and erase count after acceptance,
milliseconds to completion (R158, 11.2). -/
def acceptedReply (r : Request) (k : OpKind) (t : Store) : List Byte :=
  replyPayload r .ok ([k.code, byteOf (r.field 1), t.pageByte (r.field 1)]
    ++ wordBytes (t.erases (r.field 1)) ++ [byteOf k.millis])

/-- An operation request: steps 1 to 5, step 6, then the acceptance and its reply (R158). -/
def carryOperation (k : OpKind) (refusal : Request → State → Option ResultCode)
    (accept : Request → State → State) (d : Dispatch) (s : State) : State × List (List Byte) :=
  let r := d.request
  match operationRefusal r.source (r.field 1) s with
  | some c => refuse r c s
  | none =>
    match refusal r s with
    | some c => refuse r c s
    | none => (accept r s, [acceptedReply r k (accept r s).store])

/-- Acceptance of STORE-PROGRAM (R159). -/
def acceptProgram (r : Request) (s : State) : State :=
  (s.withStore ((s.store.condemn (r.field 1)).begin .program (r.field 1) (some (r.field 2)))).withResolver
    (s.resolver.setPin (r.field 2) true)

/-- Acceptance of STORE-ERASE (R161). -/
def acceptErase (r : Request) (s : State) : State :=
  s.withStore ((s.store.condemn (r.field 1)).begin .erase (r.field 1) none)

/-- Acceptance of STORE-LOCK (R162). -/
def acceptLock (r : Request) (s : State) : State :=
  s.withStore (s.store.begin .lock (r.field 1) none)

/-- Acceptance of STORE-UNLOCK-ERASE (R163). -/
def acceptUnlock (r : Request) (s : State) : State :=
  s.withStore ((s.store.condemn (r.field 1)).begin .unlockErase (r.field 1) none)

/-! ### The seven requests at the store -/

/-- STORE-PROGRAM (R159). -/
def carryProgram : Dispatch → State → State × List (List Byte) :=
  carryOperation .program programRefusal acceptProgram

/-- STORE-ERASE (R161). -/
def carryErase : Dispatch → State → State × List (List Byte) :=
  carryOperation .erase eraseRefusal acceptErase

/-- STORE-LOCK (R162). -/
def carryLock : Dispatch → State → State × List (List Byte) :=
  carryOperation .lock lockRefusal acceptLock

/-- STORE-UNLOCK-ERASE (R163). -/
def carryUnlock : Dispatch → State → State × List (List Byte) :=
  carryOperation .unlockErase unlockRefusal acceptUnlock

/-- STORE-ABORT (R164). -/
def carryAbort (d : Dispatch) (s : State) : State × List (List Byte) :=
  let r := d.request
  if !s.agent.ownedBy r.source then refuse r .noSession s
  else
    match s.store.engine with
    | none => refuse r .idle s
    | some o => okWith r [o.kind.code, byteOf o.page, o.phase.code] (endOperation o .aborted s)

/-- STORE-CLEAR-FAULT (R165). -/
def carryClearFault (d : Dispatch) (s : State) : State × List (List Byte) :=
  let r := d.request
  if !s.agent.ownedBy r.source then refuse r .noSession s
  else if s.store.engine ≠ none then refuse r .busy s
  else okWith r [s.store.latch.code] (s.withStore { s.store with latch := .none })

/-- The operation in flight as STORE-STATUS shows it: 0, 255, 255 when READY (11.5). The source byte of an
operation other than a program is 255 (DESIGN CHOICE, log entry 33). -/
def inFlightBytes : Option Operation → List Byte
  | none => [0, 255, 255]
  | some o => [o.kind.code, byteOf o.page, pageNumByte o.source]

/-- How many free bytes the last-result fields of STORE-STATUS take when the record is absent: its
page, outcome, phase and Link Time (log entry 12). -/
def lastDraws : Option LastResult → Nat
  | none => 9
  | some _ => 0

/-- The last-result fields, bytes 8 to 18 (11.5). With no record the operation is 0 and the source 255,
and the other fields are free (log entries 12 and 22). -/
def lastBytes (free : List Byte) : Option LastResult → List Byte
  | none => [0] ++ free.take 1 ++ [255] ++ free.drop 1
  | some l => [l.kind.code, byteOf l.page, pageNumByte l.source, l.ending.code, l.phase.code]
      ++ bytesOf 6 l.time.toNat

/-- The STORE-STATUS contents (R166, 11.5). -/
def Store.statusContents (t : Store) (free : List Byte) : List Byte :=
  [engineByte t.engine] ++ inFlightBytes t.engine ++ [t.latch.code, flagByte t.guard]
    ++ lastBytes free t.last
    ++ (List.range 11).flatMap fun p => t.pageByte p :: wordBytes (t.erases p)

/-- STORE-STATUS (R166). -/
def carryStoreStatus (d : Dispatch) (s : State) : State × List (List Byte) :=
  let n := lastDraws s.store.last
  okWith d.request (s.store.statusContents (freeBytesNow s n)) (drew n s)

/-! ### Phase completions -/

/-- The phase that ends, with the time left of it passed (R154; log entry 3): what `f` makes of the
operation in flight when `ends` names its kind and phase. -/
def phaseEvent (ends : Operation → Bool) (f : Operation → State → State) (s : State) : State :=
  match s.store.engine with
  | none => s
  | some o => if ends o then f o (elapse o.left s) else s

/-- The next phase of the operation begins (R154). -/
def nextPhase (o : Operation) (p : Phase) (s : State) : State :=
  s.withStore { s.store with engine := some { o with phase := p, left := p.duration } }

/-- The words of a page erased (log entry 19). -/
def Store.wipe (t : Store) (p : Nat) : Store :=
  { t with words := Cells.eraseRange t.words (pageSize * p) (pageSize * p + pageSize) }

/-- The words of a page written (R154). -/
def Store.fillPage (t : Store) (p : Nat) (ws : List Word) : Store :=
  { t with words := Cells.writeAll 0 t.words (pageSize * p) ws }

/-- The source page of a program; T0 stands where an operation names none, which no program does. -/
def Operation.sourcePage (o : Operation) : Nat := o.source.getD 0

/-- A page state set. -/
def Store.setState (t : Store) (p : Nat) (v : PageState) : Store :=
  { t with pageState := Cells.write .erased t.pageState p v }

/-- A lock flag set or cleared. -/
def Store.setLock (t : Store) (p : Nat) (b : Bool) : Store :=
  { t with locked := Cells.write false t.locked p b }

/-- ERASING of a program completes and WRITING begins (R154). -/
def programErased : State → State :=
  phaseEvent (fun o => o.kind == .program && o.phase == .erasing) fun o s =>
    nextPhase o .writing (s.withStore (s.store.wipe o.page))

/-- WRITING completes, the source page written into the store page, and VERIFYING begins (R154). -/
def programWritten : State → State :=
  phaseEvent (fun o => o.kind == .program && o.phase == .writing) fun o s =>
    nextPhase o .verifying
      (s.withStore (s.store.fillPage o.page (wholePage (s.resolver.word o.sourcePage))))

/-- Whether the verify finds every word equal: the array held the words, and they are the words of the
tuning page (R160). -/
def verifyEqual (held : Bool) (o : Operation) (s : State) : Bool :=
  held && wholePage (s.store.word o.page) == wholePage (s.resolver.word o.sourcePage)

/-- The verify completion of a program (R160). -/
def programVerified (held : Bool) : State → State :=
  phaseEvent (fun o => o.kind == .program && o.phase == .verifying) fun o s =>
    if verifyEqual held o s then
      raise .storeDone (endOperation o .done (s.withStore (s.store.setState o.page .valid)))
    else raise .storeFault (endOperation o .verifyFail s)

/-- The erase completion of an erase or unlock-erase (R161, R163). -/
def erased (succeeded : Bool) : State → State :=
  phaseEvent (fun o => (o.kind == .erase || o.kind == .unlockErase) && o.phase == .erasing) fun o s =>
    if succeeded then
      raise .storeDone (endOperation o .done
        (s.withStore (((s.store.wipe o.page).setState o.page .erased).setLock o.page false)))
    else raise .storeFault (endOperation o .eraseFail s)

/-- The lock completion (R162). -/
def lockDone : State → State :=
  phaseEvent (fun o => o.kind == .lock && o.phase == .locking) fun o s =>
    raise .storeDone (endOperation o .done (s.withStore (s.store.setLock o.page true)))

/-- A fall of STORE_GUARD at the store: the operation in flight ends GUARD-LOST (R167). -/
def guardFalls (s : State) : State :=
  let s' := s.withStore { s.store with guard := false }
  match s.store.engine with
  | none => s'
  | some o => raise .storeFault (endOperation o .guardLost s')

/-- A rise of STORE_GUARD at the store (R167). -/
def guardRises (s : State) : State := s.withStore { s.store with guard := true }

/-! ### Meanings -/

/-- PROGRAM_ERASING_COMPLETE (R154). -/
def execProgramErasingComplete (s : State) : Host.Outcome State Fault Refusal :=
  .next (s.ifPowered programErased)

/-- WRITING_COMPLETE (R154). -/
def execWritingComplete (s : State) : Host.Outcome State Fault Refusal :=
  .next (s.ifPowered programWritten)

/-- VERIFY_COMPLETE (R160). -/
def execVerifyComplete (held : Bool) (s : State) : Host.Outcome State Fault Refusal :=
  .next (s.ifPowered (programVerified held))

/-- ERASE_COMPLETE (R161, R163). -/
def execEraseComplete (succeeded : Bool) (s : State) : Host.Outcome State Fault Refusal :=
  .next (s.ifPowered (erased succeeded))

/-- LOCK_COMPLETE (R162). -/
def execLockComplete (s : State) : Host.Outcome State Fault Refusal := .next (s.ifPowered lockDone)

/-- STORE_GUARD_FALL (R167). -/
def execStoreGuardFall (s : State) : Host.Outcome State Fault Refusal := .next (s.ifPowered guardFalls)

/-- STORE_GUARD_RISE (R167). -/
def execStoreGuardRise (s : State) : Host.Outcome State Fault Refusal := .next (s.ifPowered guardRises)

end Sys2Proof.Machine
end

