-- ==== Sys2Proof/Machine/Agent.lean ====
section
/-! DEFINITION. The Management Agent: intake and dispatch, the requests it carries out itself, the
session, the alert protocol and RESTART (chapter 10). -/

namespace Sys2Proof.Machine

/-! ### Authorisation and the session -/

/-- Whether a requester may issue a request (R178). IDENTIFY is answered before this check. -/
def Profile.admits (p : Profile) (k : ReqKind) (node : Byte) : Bool :=
  p.managers.isEmpty || p.managers.contains node || (k == .alertAck && p.alertNode == some node)

/-- Whether step 7 of R177 asks for the session. -/
def needsSession : ReqKind → Bool
  | .tuneWrite | .windowSet | .closeSession => true
  | _ => false

/-- The session timeout in bit times (R176). -/
def Profile.timeoutBits (p : Profile) : Nat := p.timeout * Config.bitsPerSecond

/-- An intake from the session's owner restarts its timer, whatever the outcome (R177, R184). -/
def Agent.renewed (a : Agent) (node : Byte) : Agent :=
  match a.session with
  | some x => if x.owner = node then { a with session := some { x with left := a.profile.timeoutBits } } else a
  | none => a

/-- What OPEN-SESSION is refused with, if it is refused, and the contents of that refusal (R183). -/
def Agent.openRefusal (a : Agent) (node : Byte) : Option (ResultCode × List Byte) :=
  if !a.guard then some (.guardLow, [])
  else
    match a.session with
    | some x => if x.owner = node then none else some (.sessionHeld, [x.owner])
    | none => none

/-- The session opened, or renewed with a new override flag (R183). -/
def Agent.opened (a : Agent) (node : Byte) (override : Bool) : Agent :=
  { a with session := some ⟨node, override, a.profile.timeoutBits⟩ }

/-- The session ended (R184). -/
def Agent.closed (a : Agent) : Agent := { a with session := none }

/-- Seconds left on the session timer, rounded up (R187). -/
def Session.seconds (x : Session) : Nat := (x.left + (Config.bitsPerSecond - 1)) / Config.bitsPerSecond

/-! ### Alerts -/

/-- Whether an ALERT-ACK of a serial acknowledges (R191). -/
def Alerts.acknowledges (a : Alerts) (serial : Byte) : Bool := a.outstanding != 0 && a.current == serial

/-- The alerts after the acknowledgement (R191). -/
def Alerts.acked (a : Alerts) : Alerts :=
  { a with outstanding := 0, ackTimer := none, tries := 0, retryDue := false }

/-- Whether an alert send is to be taken (R190). -/
def Alerts.sendDue (a : Alerts) : Bool :=
  a.retryDue || (a.pending != 0 && a.outstanding == 0)

/-- The alerts after a send: a first send moves the pending set, a retry adds it (R190). -/
def Alerts.sent (a : Alerts) : Alerts :=
  { a with outstanding := if a.retryDue then a.outstanding ||| a.pending else a.pending,
           pending := 0,
           tries := if a.retryDue then a.tries + 1 else 1,
           retryDue := false,
           current := a.nextSerial,
           nextSerial := a.nextSerial + 1,
           ackTimer := some Config.ackWait }

/-- The alerts when the ack timer expires (R191). -/
def Alerts.expired (a : Alerts) : Alerts :=
  if a.tries < 3 then { a with ackTimer := none, retryDue := true }
  else { a with ackTimer := none, unreported := a.unreported ||| a.outstanding, outstanding := 0,
                tries := 0 }

/-- The alerts at the Agent's RESTART event: the next serial is kept (R192). -/
def Alerts.restarted (a : Alerts) : Alerts :=
  { a with pending := 0, outstanding := 0, unreported := 0, ackTimer := none, tries := 0,
           retryDue := false }

/-- The ALERT frame (R190): its sequence is the serial; its payload is the serial, the outstanding set
and the try count (11.1). -/
def Agent.alertFrame (a : Agent) (node : Byte) (x : Alerts) : Frame :=
  Frame.build node a.profile.address .alert x.current
    [x.current, alertByte x.outstanding, byteOf x.tries]

/-- The port an ALERT leaves on: Port D for an entry DOWN, Port U otherwise (R190). -/
def alertPort (c : Classifier) (node : Byte) : Port :=
  match Cells.read Side.unknown c.nodeMap node.toNat with
  | .down => .D
  | .up => .U
  | .unknown => .U

/-- The alert send (R190), taken when it is due and the chosen port has a free frame. -/
def alertSend (s : State) : State :=
  match s.agent.profile.alertNode with
  | none => s
  | some node =>
    let p := alertPort s.classifier node
    if s.agent.alerts.sendDue ∧ 0 < (s.port p).free then
      let x := s.agent.alerts.sent
      (placeFrames p [s.agent.alertFrame node x] s).withAgent { s.agent with alerts := x }
    else s

/-- The expiry of the ack timer, with the time left on it passed (R191; log entry 3). -/
def ackExpiry (s : State) : State :=
  match s.agent.alerts.ackTimer with
  | none => s
  | some n =>
    if s.agent.alerts.outstanding = 0 then s
    else
      let s' := elapse n s
      s'.withAgent { s'.agent with alerts := s'.agent.alerts.expired }

/-- The expiry of the session timer, with the time left on it passed (R184; log entry 3). -/
def sessionExpires (s : State) : State :=
  match s.agent.session with
  | none => s
  | some x =>
    let s' := elapse x.left s
    raise .sessionExpired (s'.withAgent s'.agent.closed)

/-- A fall of STORE_GUARD at the Agent (R185). -/
def agentGuardFalls (s : State) : State := s.withAgent { s.agent.closed with guard := false }

/-- A rise of STORE_GUARD at the Agent (R185). -/
def agentGuardRises (s : State) : State := s.withAgent { s.agent with guard := true }

/-! ### Gatherings: STATUS, COUNTERS and COUNTERS-CLEAR -/

/-- A gathering begun: held frames, a part dispatched to each block concerned (R180, R187, R188). -/
def beginGather (k : GatherKind) (r : Request) (entry held : Nat) (blocks : List Block) (s : State) : State :=
  let s' := hold r.port held s
  let a := s'.agent
  s'.withAgent { a with
    nextId := a.nextId + 1,
    gathers := a.gathers ++ [⟨a.nextId, k, r, entry, held, blocks, []⟩],
    dispatched := a.dispatched ++ blocks.map fun b => ⟨b, r, entry, held, some a.nextId⟩ }

/-- The bytes a block gave a gathering. -/
def Gather.part (g : Gather) (b : Block) : List Byte :=
  match g.got.find? fun e => e.1 == b with
  | some e => e.2
  | none => []

/-- Byte 24 of STATUS from both ports' parts (11.5). -/
def Gather.linkByte (g : Gather) : Byte :=
  (g.part (.port .U)).getD 0 0 ||| (g.part (.port .D)).getD 0 0

/-- The part byte of COUNTERS: frame number and number of frames (R197). -/
def partByte (i n : Nat) : Byte := byteOf (16 * i + n)

/-- The reply payloads of a gathering whose parts are all taken (R187, R188, R197). -/
def Gather.payloads (g : Gather) : List (List Byte) :=
  match g.kind with
  | .status agentPart =>
    [replyPayload g.request .ok (agentPart ++ g.part .timeBase ++ [g.linkByte] ++ g.part .capture
      ++ g.part .store)]
  | .counters 0 =>
    if 2 ≤ g.held then
      [replyPayload g.request .ok ([0, partByte 1 2] ++ g.part (.port .U)),
        replyPayload g.request .ok ([0, partByte 2 2] ++ g.part (.port .D))]
    else [replyPayload g.request .ok ([0, partByte 1 1] ++ g.part (.port .U))]
  | .counters n =>
    [replyPayload g.request .ok ([byteOf n, partByte 1 1] ++ g.part .classifier ++ g.part .trigger)]
  | .clear => [replyPayload g.request .ok []]

/-- A block's part given to a gathering. -/
def Gather.give (g : Gather) (b : Block) (bytes : List Byte) : Gather :=
  { g with waiting := g.waiting.erase b, got := g.got ++ [(b, bytes)] }

/-- The gathering of an id. -/
def Agent.gather (a : Agent) (id : Nat) : Option Gather := a.gathers.find? fun g => g.id == id

/-- A gathering given a part: kept with the part, or answered when the part is its last (R187, R188). -/
def deliverPart (g : Gather) (b : Block) (bytes : List Byte) (s : State) : State :=
  let g' := g.give b bytes
  if g'.waiting = [] then
    answer g'.request g'.entry g'.held g'.payloads
      (s.withAgent { s.agent with gathers := s.agent.gathers.filter fun x => x.id != g.id })
  else
    s.withAgent { s.agent with
      gathers := s.agent.gathers.map fun x => if x.id == g.id then g' else x }

/-- The event of a part at a block: the oldest request dispatched to the block, when it is a part of a
gathering of the kind asked, is taken; `f` reads or clears the part. -/
def partEvent (b : Block) (ofKind : GatherKind → Bool) (f : GatherKind → State → State × List Byte)
    (s : State) : State :=
  match s.agent.nextFor b with
  | none => s
  | some d =>
    match d.gather with
    | none => s
    | some id =>
      match s.agent.gather id with
      | none => s
      | some g =>
        if ofKind g.kind then
          let out := f g.kind (s.withAgent (s.agent.takeNext b))
          deliverPart g b out.2 out.1
        else s

/-- Whether a gathering is a STATUS. -/
def GatherKind.isStatus : GatherKind → Bool
  | .status _ => true
  | _ => false

/-- Whether a gathering is a COUNTERS. -/
def GatherKind.isCounters : GatherKind → Bool
  | .counters _ => true
  | _ => false

/-- Whether a gathering is a COUNTERS-CLEAR. -/
def GatherKind.isClear : GatherKind → Bool
  | .clear => true
  | _ => false

/-- The block of a STATUS part. -/
def statusBlock : StatusBlock → Block
  | .timeBase => .timeBase
  | .port p => .port p
  | .capture => .capture
  | .store => .store

/-- A STATUS part as its block stands (R187). -/
def statusPart (b : StatusBlock) (s : State) : List Byte :=
  match b with
  | .timeBase => s.time.statusBytes
  | .port p => linkByte p (s.port p)
  | .capture => s.capture.statusBytes
  | .store => s.store.statusBytes

/-- The block that keeps counters. -/
def counterBlock : CounterBlock → Block
  | .port p => .port p
  | .classifier => .classifier
  | .trigger => .trigger

/-- The counters of a group as their block stands (R188). -/
def countersPart (b : CounterBlock) (k : GatherKind) (s : State) : List Byte :=
  match b, k with
  | .port p, _ => (s.port p).counterBytes
  | .classifier, .counters n => s.classifier.counterBytes n
  | .classifier, _ => []
  | .trigger, _ => countBytes s.trigger.overflow

/-- A port's counters set to 0 (R35). -/
def PortState.cleared (x : PortState) : PortState :=
  { x with rxGood := 0, rxCheckErr := 0, rxFormatErr := 0, txFrames := 0, transitDropFull := 0,
           transitDropDown := 0, replyLost := 0, requestDrop := 0 }

/-- The Classifier's counters set to 0 (R70, R71). -/
def Classifier.cleared (x : Classifier) : Classifier :=
  { x with toSelf := 0, unmatched := 0, unresolved := 0, holdDiscard := 0, classCount := [] }

/-- A block's counters set to 0 (R188). -/
def clearPart (b : CounterBlock) (s : State) : State :=
  match b with
  | .port p => s.onPort p PortState.cleared
  | .classifier => s.withClassifier s.classifier.cleared
  | .trigger => s.withTrigger { s.trigger with overflow := 0 }

/-- STATUS_PART_READ (R187). -/
def readStatusPart (b : StatusBlock) : State → State :=
  partEvent (statusBlock b) GatherKind.isStatus fun _ s => (s, statusPart b s)

/-- COUNTERS_PART_READ (R197). -/
def readCountersPart (b : CounterBlock) : State → State :=
  partEvent (counterBlock b) GatherKind.isCounters fun k s => (s, countersPart b k s)

/-- COUNTERS_PART_CLEAR (R188). -/
def clearCountersPart (b : CounterBlock) : State → State :=
  partEvent (counterBlock b) GatherKind.isClear fun _ s => (clearPart b s, [])

/-! ### STATUS: the Agent's own part -/

/-- Bytes 7 to 9 of STATUS: owner, override flag, seconds left (11.5). With no session the override
byte is free (log entry 12). -/
def sessionBytes (free : Bool) : Option Session → List Byte
  | some x => [x.owner, flagByte x.override, byteOf x.seconds]
  | none => [255, flagByte free, 0]

/-- Byte 14: the current alert serial, valid when the try count is above 0, free otherwise (11.5; log
entry 12). -/
def Alerts.serialByte (a : Alerts) (free : Byte) : Byte := if 0 < a.tries then a.current else free

/-- Bytes 2 to 15 of STATUS (11.5): two free values stand by for bytes 8 and 14. -/
def Agent.statusBytes (a : Agent) (draws : Nat) : List Byte :=
  [flagByte a.profile.loaded, a.profileState.code, byteOf a.profileState.index, a.profile.address,
      a.strapRead.setWidth 8]
    ++ sessionBytes (Config.freeFlag draws) a.session
    ++ [nodeByte a.profile.alertNode, alertByte a.alerts.pending, alertByte a.alerts.outstanding,
      alertByte a.alerts.unreported, a.alerts.serialByte (Config.freeByte (draws + 1)),
      byteOf a.alerts.tries]

/-- The alert set a STATUS clears: pending without an alert node, unreported with one (R187). -/
def Agent.statusClears (a : Agent) : Agent :=
  match a.profile.alertNode with
  | none => { a with alerts := { a.alerts with pending := 0 } }
  | some _ => { a with alerts := { a.alerts with unreported := 0 } }

/-- STATUS at the Agent (R187). -/
def carryStatus (r : Request) (entry : Nat) (s : State) : State :=
  let part := s.agent.statusBytes s.draws
  let s' := drew 2 (s.withAgent s.agent.statusClears)
  beginGather (.status part) r entry 1 [.timeBase, .port .U, .port .D, .capture, .store] s'

/-! ### RESTART at the Agent -/

/-- Every block's RESTART event owed (R194). -/
def Restarting.all : Restarting := ⟨true, true, true, true, true, true, true⟩

/-- Whether the egress side of a port still owes its RESTART event. -/
def Restarting.egress (x : Restarting) : Port → Bool
  | .U => x.egressU
  | .D => x.egressD

/-- How many RESTART events the egress side of a port owes (R194; log entry 11). -/
def Agent.egressOwed (a : Agent) (p : Port) : Nat := (a.restarts.filter fun x => x.egress p).length

/-- The Agent's part of RESTART, the reply apart: session, Retry Cache and alerts reset, the profile
reloaded with the strap read again, and the blocks' events owed (R193, R194). -/
def Agent.restarted (t : Store) (strap : BitVec 2) (a : Agent) : Agent :=
  Agent.load t strap { a with session := none, cache := [], alerts := a.alerts.restarted,
                              restarts := a.restarts ++ [Restarting.all] }

/-- The accepted RESTART: the OK reply is placed, built with the own address before the reload and
kept by no cache, and outlives the emptying that this RESTART brings (R26, R193). -/
def acceptRestart (r : Request) (s : State) : State :=
  let f := s.agent.buildReply r (replyPayload r .ok [])
  let s' := s.onPort r.port (PortState.place ⟨f, s.agent.egressOwed r.port + 1⟩)
  s'.withAgent (s'.agent.restarted s'.store s'.strap)

/-! ### Intake -/

/-- A reply placed at the intake event and kept by the request's cache entry (R182). -/
def replyNow (r : Request) (entry : Nat) (c : ResultCode) (contents : List Byte) (s : State) : State :=
  answer r entry 0 [replyPayload r c contents] s

/-- Frames held for a COUNTERS (R180, R197). -/
def countersHeld (group free : Nat) : Nat := if group = 0 ∧ 2 ≤ free then 2 else 1

/-- The blocks that keep a group's counters (R188; log entry 20). -/
def groupBlocks : Nat → List Block
  | 0 => [.port .U, .port .D]
  | 1 => [.classifier, .trigger]
  | _ => [.classifier]

/-- COUNTERS at the Agent (R188). -/
def carryCounters (r : Request) (entry : Nat) (s : State) : State :=
  let g := r.field 1
  if 4 < g then replyNow r entry .range [] s
  else beginGather (.counters g) r entry (countersHeld g (s.port r.port).free) (groupBlocks g) s

/-- COUNTERS-CLEAR at the Agent (R188). -/
def carryCountersClear (r : Request) (entry : Nat) (s : State) : State :=
  beginGather .clear r entry 1 [.port .U, .port .D, .classifier, .trigger] s

/-- RESTART at the Agent (R193). -/
def carryRestart (r : Request) (entry : Nat) (s : State) : State :=
  if s.store.engine ≠ none then replyNow r entry .busy [] s else acceptRestart r s

/-- OPEN-SESSION at the Agent (R183). -/
def carryOpenSession (r : Request) (entry : Nat) (s : State) : State :=
  match s.agent.openRefusal r.source with
  | some (c, contents) => replyNow r entry c contents s
  | none =>
    replyNow r entry .ok [r.source, flagByte (r.flag 1), byteOf s.agent.profile.timeout]
      (s.withAgent (s.agent.opened r.source (r.flag 1)))

/-- CLOSE-SESSION at the Agent, from the owner (R184). -/
def carryCloseSession (r : Request) (entry : Nat) (s : State) : State :=
  replyNow r entry .ok [] (s.withAgent s.agent.closed)

/-- ALERT-ACK at the Agent (R191). -/
def carryAlertAck (r : Request) (entry : Nat) (s : State) : State :=
  if s.agent.alerts.acknowledges (r.payload.getD 1 0) then
    replyNow r entry .ok [] (s.withAgent { s.agent with alerts := s.agent.alerts.acked })
  else replyNow r entry .stale [] s

/-- IDENTIFY's contents (R186, 11.2). -/
def Agent.identity (a : Agent) : List Byte :=
  [0x48, 0x53, 0x31, 0x40, 0x01, a.profile.address, flagByte a.profile.loaded]

/-- IDENTIFY (R186): answered at step 3 and kept by no cache entry. -/
def carryIdentify (r : Request) (s : State) : State :=
  if ReqKind.lengthRight .identify r.payload then
    replyUncached r (replyPayload r .ok s.agent.identity) s
  else replyUncached r (replyPayload r .badLength []) s

/-- The block that owns a dispatched request (R179); none for the Agent's own. -/
def ownerOf : ReqKind → Option Block
  | .tuneWrite | .tuneRead | .windowSet | .windowRead | .pageRead => some .resolver
  | .storeProgram | .storeErase | .storeLock | .storeUnlockErase | .storeAbort | .storeClearFault
  | .storeStatus => some .store
  | .captureArm | .captureStop | .captureClear | .captureMode | .captureMark | .readNext | .readBlock
  | .readSlot | .setReadCursor => some .capture
  | _ => none

/-- Frames held at the dispatch of a request to its owner: all free frames for READ-BLOCK, one for the
others (R138, R180). -/
def dispatchHeld (k : ReqKind) (free : Nat) : Nat := if k = .readBlock then free else 1

/-- Step 8 of R177: carried out at the Agent, or dispatched to the owner (R179). -/
def carryOut (k : ReqKind) (r : Request) (entry : Nat) (s : State) : State :=
  match k with
  | .identify => s
  | .status => carryStatus r entry s
  | .counters => carryCounters r entry s
  | .countersClear => carryCountersClear r entry s
  | .restart => carryRestart r entry s
  | .openSession => carryOpenSession r entry s
  | .closeSession => carryCloseSession r entry s
  | .alertAck => carryAlertAck r entry s
  | k =>
    match ownerOf k with
    | none => s
    | some b => dispatchTo b r entry (dispatchHeld k (s.port r.port).free) s

/-- A request dropped: REQUEST-DROP of the arrival port (R177 step 1, R181). -/
def dropRequest (p : Port) (s : State) : State :=
  s.onPort p fun x => { x with requestDrop := bump x.requestDrop }

/-- A repeat (R181): dropped while pending or for want of room, answered with the cached frames
otherwise; its entry is the most recently used. -/
def repeatRequest (e : CacheEntry) (r : Request) (s : State) : State :=
  let s' := s.withAgent { s.agent with cache := cacheUse e s.agent.cache }
  match e.frames with
  | none => dropRequest r.port s'
  | some fs =>
    if fs.length ≤ (s.port r.port).free then placeFrames r.port fs s' else dropRequest r.port s'

/-- Steps 6 to 8 of R177 for a request with its cache entry made. -/
def afterEntry (k : ReqKind) (r : Request) (entry : Nat) (s : State) : State :=
  if !k.lengthRight r.payload then replyNow r entry .badLength [] s
  else if needsSession k && !s.agent.ownedBy r.source then replyNow r entry .noSession [] s
  else carryOut k r entry s

/-- The cache entry for a new request made (R182). -/
def makeEntry (r : Request) (s : State) : State :=
  s.withAgent { s.agent with cache := cacheTake r s.agent.nextId s.agent.cache,
                             nextId := s.agent.nextId + 1 }

/-- The requester's entry when the request repeats it: an equal sequence number (R177 step 5). -/
def Agent.repeated (a : Agent) (r : Request) : Option CacheEntry :=
  match cacheFind r.source a.cache with
  | some e => if e.seq = r.seq then some e else none
  | none => none

/-- Steps 4 to 8 of R177 for a request of a known kind other than IDENTIFY. -/
def intakeKnown (k : ReqKind) (r : Request) (s : State) : State :=
  if !s.agent.profile.admits k r.source then replyUncached r (replyPayload r .notManager []) s
  else
    match s.agent.repeated r with
    | some e => repeatRequest e r s
    | none => afterEntry k r s.agent.nextId (makeEntry r s)

/-- Steps 1 to 8 of R177 for a request taken. -/
def intakeRequest (r : Request) (s : State) : State :=
  if (s.port r.port).free = 0 then dropRequest r.port s
  else
    match r.kind with
    | none => replyUncached r (replyPayload r .unknownRequest []) s
    | some k => if k = .identify then carryIdentify r s else intakeKnown k r s

/-- The request that waits at a port. -/
def waitingAt (p : Port) (s : State) : Option Request := (s.port p).request

/-- The intake of the request that waits at a port (R177): the owner's session timer is restarted
(R184), and the steps are gone through. A request carries the port it arrived at, which is `p`. -/
def intake (p : Port) (s : State) : State :=
  match waitingAt p s with
  | none => s
  | some r =>
    let s' := s.onPort p fun x => { x with request := none }
    intakeRequest { r with port := p } (s'.withAgent (s'.agent.renewed r.source))

/-- The intake of the request that waits at a port, when it is one of the named kind (none: of no known
kind). -/
def intakeOf (k : Option ReqKind) (p : Port) (s : State) : State :=
  match waitingAt p s with
  | none => s
  | some r => if r.kind = k then intake p s else s

/-- The event of a request of another block: its intake, or its event at the owner `b` (R179). -/
def requestEvent (k : ReqKind) (b : Block) (carry : Dispatch → State → State × List (List Byte))
    (st : Stage) (s : State) : State :=
  match st with
  | .intake p => intakeOf (some k) p s
  | .owner => ownerEvent b k carry s

end Sys2Proof.Machine
end

