-- ==== Sys2Proof/Machine/Requests.lean ====
section
/-! DEFINITION. The meanings of the requests and of the Agent's own events: each is one event of the
shared operations of Machine/Agent.lean (R177 to R192). -/

namespace Sys2Proof.Machine

/-! ### Requests carried out at the Agent -/

/-- UNKNOWN_REQUEST (R177). -/
def execUnknownRequest (p : Port) (s : State) : Host.Outcome State Fault Refusal :=
  .next (s.ifPowered (intakeOf none p))

/-- IDENTIFY (R186). -/
def execIdentify (p : Port) (s : State) : Host.Outcome State Fault Refusal :=
  .next (s.ifPowered (intakeOf (some .identify) p))

/-- STATUS (R187). -/
def execStatus (p : Port) (s : State) : Host.Outcome State Fault Refusal :=
  .next (s.ifPowered (intakeOf (some .status) p))

/-- COUNTERS (R188). -/
def execCounters (p : Port) (s : State) : Host.Outcome State Fault Refusal :=
  .next (s.ifPowered (intakeOf (some .counters) p))

/-- COUNTERS_CLEAR (R188). -/
def execCountersClear (p : Port) (s : State) : Host.Outcome State Fault Refusal :=
  .next (s.ifPowered (intakeOf (some .countersClear) p))

/-- RESTART (R193): the strap is read again at the reload. -/
def execRestart (p : Port) (strap : BitVec 2) (s : State) : Host.Outcome State Fault Refusal :=
  .next (s.ifPowered fun t => intakeOf (some .restart) p (t.withStrap strap))

/-- OPEN_SESSION (R183). -/
def execOpenSession (p : Port) (s : State) : Host.Outcome State Fault Refusal :=
  .next (s.ifPowered (intakeOf (some .openSession) p))

/-- CLOSE_SESSION (R184). -/
def execCloseSession (p : Port) (s : State) : Host.Outcome State Fault Refusal :=
  .next (s.ifPowered (intakeOf (some .closeSession) p))

/-- ALERT_ACK (R191). -/
def execAlertAck (p : Port) (s : State) : Host.Outcome State Fault Refusal :=
  .next (s.ifPowered (intakeOf (some .alertAck) p))

/-! ### Parts at other blocks -/

/-- STATUS_PART_READ (R187). -/
def execStatusPartRead (b : StatusBlock) (s : State) : Host.Outcome State Fault Refusal :=
  .next (s.ifPowered (readStatusPart b))

/-- COUNTERS_PART_READ (R197). -/
def execCountersPartRead (b : CounterBlock) (s : State) : Host.Outcome State Fault Refusal :=
  .next (s.ifPowered (readCountersPart b))

/-- COUNTERS_PART_CLEAR (R188). -/
def execCountersPartClear (b : CounterBlock) (s : State) : Host.Outcome State Fault Refusal :=
  .next (s.ifPowered (clearCountersPart b))

/-! ### Timers, alerts and the guard at the Agent -/

/-- SESSION_EXPIRY (R184). -/
def execSessionExpiry (s : State) : Host.Outcome State Fault Refusal :=
  .next (s.ifPowered (sessionExpires))

/-- ALERT_SEND (R190). -/
def execAlertSend (s : State) : Host.Outcome State Fault Refusal :=
  .next (s.ifPowered (alertSend))

/-- ACK_TIMER_EXPIRY (R191). -/
def execAckTimerExpiry (s : State) : Host.Outcome State Fault Refusal :=
  .next (s.ifPowered (ackExpiry))

/-- AGENT_GUARD_FALL (R185). -/
def execAgentGuardFall (s : State) : Host.Outcome State Fault Refusal :=
  .next (s.ifPowered (agentGuardFalls))

/-- AGENT_GUARD_RISE (R185). -/
def execAgentGuardRise (s : State) : Host.Outcome State Fault Refusal :=
  .next (s.ifPowered (agentGuardRises))

/-! ### Requests of the Page Resolver -/

/-- TUNE_WRITE (R47). -/
def execTuneWrite (st : Stage) (s : State) : Host.Outcome State Fault Refusal :=
  .next (s.ifPowered (requestEvent .tuneWrite .resolver carryTuneWrite st))

/-- TUNE_READ (R49). -/
def execTuneRead (st : Stage) (s : State) : Host.Outcome State Fault Refusal :=
  .next (s.ifPowered (requestEvent .tuneRead .resolver carryTuneRead st))

/-- WINDOW_SET (R50). -/
def execWindowSet (st : Stage) (s : State) : Host.Outcome State Fault Refusal :=
  .next (s.ifPowered (requestEvent .windowSet .resolver carryWindowSet st))

/-- WINDOW_READ (R52). -/
def execWindowRead (st : Stage) (s : State) : Host.Outcome State Fault Refusal :=
  .next (s.ifPowered (requestEvent .windowRead .resolver carryWindowRead st))

/-- PAGE_READ (R53). -/
def execPageRead (st : Stage) (s : State) : Host.Outcome State Fault Refusal :=
  .next (s.ifPowered (requestEvent .pageRead .resolver carryPageRead st))

/-! ### Requests of the Table Store -/

/-- STORE_PROGRAM (R159). -/
def execStoreProgram (st : Stage) (s : State) : Host.Outcome State Fault Refusal :=
  .next (s.ifPowered (requestEvent .storeProgram .store carryProgram st))

/-- STORE_ERASE (R161). -/
def execStoreErase (st : Stage) (s : State) : Host.Outcome State Fault Refusal :=
  .next (s.ifPowered (requestEvent .storeErase .store carryErase st))

/-- STORE_LOCK (R162). -/
def execStoreLock (st : Stage) (s : State) : Host.Outcome State Fault Refusal :=
  .next (s.ifPowered (requestEvent .storeLock .store carryLock st))

/-- STORE_UNLOCK_ERASE (R163). -/
def execStoreUnlockErase (st : Stage) (s : State) : Host.Outcome State Fault Refusal :=
  .next (s.ifPowered (requestEvent .storeUnlockErase .store carryUnlock st))

/-- STORE_ABORT (R164). -/
def execStoreAbort (st : Stage) (s : State) : Host.Outcome State Fault Refusal :=
  .next (s.ifPowered (requestEvent .storeAbort .store carryAbort st))

/-- STORE_CLEAR_FAULT (R165). -/
def execStoreClearFault (st : Stage) (s : State) : Host.Outcome State Fault Refusal :=
  .next (s.ifPowered (requestEvent .storeClearFault .store carryClearFault st))

/-- STORE_STATUS (R166). -/
def execStoreStatus (st : Stage) (s : State) : Host.Outcome State Fault Refusal :=
  .next (s.ifPowered (requestEvent .storeStatus .store carryStoreStatus st))

/-! ### Requests of the Capture Unit -/

/-- CAPTURE_ARM (R122). -/
def execCaptureArm (st : Stage) (s : State) : Host.Outcome State Fault Refusal :=
  .next (s.ifPowered (requestEvent .captureArm .capture carryArm st))

/-- CAPTURE_STOP (R123). -/
def execCaptureStop (st : Stage) (s : State) : Host.Outcome State Fault Refusal :=
  .next (s.ifPowered (requestEvent .captureStop .capture carryStop st))

/-- CAPTURE_CLEAR (R124). -/
def execCaptureClear (st : Stage) (s : State) : Host.Outcome State Fault Refusal :=
  .next (s.ifPowered (requestEvent .captureClear .capture carryClear st))

/-- CAPTURE_MODE (R125). -/
def execCaptureMode (st : Stage) (s : State) : Host.Outcome State Fault Refusal :=
  .next (s.ifPowered (requestEvent .captureMode .capture carryMode st))

/-- CAPTURE_MARK (R126). -/
def execCaptureMark (st : Stage) (s : State) : Host.Outcome State Fault Refusal :=
  .next (s.ifPowered (requestEvent .captureMark .capture carryMark st))

/-- READ_NEXT (R135). -/
def execReadNext (st : Stage) (s : State) : Host.Outcome State Fault Refusal :=
  .next (s.ifPowered (requestEvent .readNext .capture carryReadNext st))

/-- READ_BLOCK (R136). -/
def execReadBlock (st : Stage) (s : State) : Host.Outcome State Fault Refusal :=
  .next (s.ifPowered (requestEvent .readBlock .capture carryReadBlock st))

/-- READ_SLOT (R141). -/
def execReadSlot (st : Stage) (s : State) : Host.Outcome State Fault Refusal :=
  .next (s.ifPowered (requestEvent .readSlot .capture carryReadSlot st))

/-- SET_READ_CURSOR (R142). -/
def execSetReadCursor (st : Stage) (s : State) : Host.Outcome State Fault Refusal :=
  .next (s.ifPowered (requestEvent .setReadCursor .capture carrySetCursor st))

end Sys2Proof.Machine
end

