-- ==== Sys2Proof/Machine/Trigger.lean ====
section
/-! DEFINITION. The Trigger Unit (chapter 6): notices, the Summary Queue, conditions and evaluation. -/

namespace Sys2Proof.Machine

/-! ### Notices and the Summary Queue -/

/-- The ARM notice at the Trigger Unit (R86). -/
def Trigger.arm (t : Trigger) : Trigger :=
  { t with conds := [], seen := [], queue := [], state := .running }

/-- The STOP or CLEAR notice (R87), and the unit's RESTART event (R88): FROZEN, the queue emptied. -/
def Trigger.freeze (t : Trigger) : Trigger := { t with state := .frozen, queue := [] }

/-- The oldest notice taken, when it is the named one (R88). -/
def takeNotice (n : Notice) (f : Trigger → Trigger) (s : State) : State :=
  match s.trigger.notices with
  | m :: rest => if m = n then s.withTrigger (f { s.trigger with notices := rest }) else s
  | [] => s

/-- The arrival of the summary in passage (R69). -/
def Trigger.arrive (t : Trigger) : Trigger :=
  match t.passage with
  | none => t
  | some x =>
    let t' := { t with passage := none }
    match t.state with
    | .frozen => t'
    | .running =>
      if t.queue.length < Config.summaryRoom then { t' with queue := t.queue ++ [x] }
      else { t' with overflow := bump t.overflow }

/-- The arrival of a summary, at the bridge (R69). -/
def summaryArrive (s : State) : State := s.withTrigger s.trigger.arrive

/-! ### Conditions -/

/-- The kind a condition acts as: EVERY with a count outside 1..65535 and CHANGE with a negative delta
are treated as NONE (R93). -/
def Cond.actsAs (c : Cond) : CondKind :=
  match c.kind with
  | .every => if 1 ≤ c.a ∧ c.a ≤ 65535 then .every else .none
  | .change => if c.a < 0 then .none else .change
  | k => k

/-- The value a condition reads: the entry at its field index, ABSENT beyond the list (R94). -/
def Cond.value (c : Cond) (values : List (Option Value)) : Option Int :=
  (values.getD c.field none).map (·.val)

/-- The distance between two whole numbers, without sign (R100). -/
def distance (v r : Int) : Int := |v - r|

/-- EVERY (R96). -/
def judgeEvery (n : Int) (e : CondState) : Bool × CondState :=
  if n ≤ (e.counter : Int) + 1 then (true, { e with counter := 0 })
  else (false, { e with counter := e.counter + 1 })

/-- ABOVE with a present value (R97). -/
def judgeAbove (l : Int) (h : Nat) (v : Int) (e : CondState) : Bool × CondState :=
  if e.armed then (if l < v then (true, { e with armed := false }) else (false, e))
  else (if v ≤ l - h then (false, { e with armed := true }) else (false, e))

/-- BELOW with a present value (R98). -/
def judgeBelow (l : Int) (h : Nat) (v : Int) (e : CondState) : Bool × CondState :=
  if e.armed then (if v < l then (true, { e with armed := false }) else (false, e))
  else (if l + h ≤ v then (false, { e with armed := true }) else (false, e))

/-- CHANGE with a present value (R100). -/
def judgeChange (d : Int) (v : Int) (e : CondState) : Bool × CondState :=
  match e.reference with
  | none => (true, { e with reference := some v })
  | some r => if d ≤ distance v r then (true, { e with reference := some v }) else (false, e)

/-- A condition that reads a field: given ABSENT it neither fires nor changes its state (R94). -/
def withValue (v : Option Int) (e : CondState) (f : Int → CondState → Bool × CondState) :
    Bool × CondState :=
  match v with
  | none => (false, e)
  | some x => f x e

/-- One condition judged: whether it fires, and its entry after (R95 to R103). `seen` is whether the
source stands in the class's Seen-Node Set. -/
def Cond.judge (c : Cond) (x : Summary) (seen : Bool) (e : CondState) : Bool × CondState :=
  match c.actsAs with
  | .none => (false, e)
  | .always => (true, e)
  | .every => judgeEvery c.a e
  | .above => withValue (c.value x.values) e (judgeAbove c.a c.b)
  | .below => withValue (c.value x.values) e (judgeBelow c.a c.b)
  | .change => withValue (c.value x.values) e (judgeChange c.a)
  | .first => (!seen, e)
  | .seqGap => (x.gap, e)

/-- The condition that stands where a summary carries none. -/
def Cond.blank : Cond := ⟨.none, 0, 0, 0⟩

/-- Condition `i` of a summary. -/
def Summary.cond (x : Summary) (i : Nat) : Cond := x.conds.getD i Cond.blank

/-- The index of an entry of the Condition State Table (R101). -/
def condKey (cls i : Nat) : Nat := 4 * cls + i

/-- The index of a node of a Seen-Node Set (R102). -/
def seenKey (cls : Nat) (node : Byte) : Nat := 128 * cls + node.toNat

/-- Whether a summary's source stands in its class's Seen-Node Set (R102). -/
def Trigger.hasSeen (t : Trigger) (x : Summary) : Bool := Cells.read false t.seen (seenKey x.cls x.source)

/-- The entry that condition `i` of a summary uses (R101). -/
def Trigger.entry (t : Trigger) (x : Summary) (i : Nat) : CondState :=
  Cells.read CondState.atArm t.conds (condKey x.cls i)

/-- Condition `i` of a summary judged against the state as it stands (R104). -/
def Trigger.judged (t : Trigger) (x : Summary) (i : Nat) : Bool × CondState :=
  (x.cond i).judge x (t.hasSeen x) (t.entry x i)

/-- The indices of the conditions that fire, in index order (R106). -/
def Trigger.fired (t : Trigger) (x : Summary) : List Nat := [0, 1, 2, 3].filter fun i => (t.judged x i).1

/-- The Condition State Table after an evaluation: all four changes made together (R104). -/
def Trigger.condsAfter (t : Trigger) (x : Summary) : Cells CondState :=
  Cells.writeAll CondState.atArm t.conds (condKey x.cls 0) ([0, 1, 2, 3].map fun i => (t.judged x i).2)

/-- Whether a FIRST condition of the summary fired (R102). -/
def Trigger.firstFired (t : Trigger) (x : Summary) : Bool :=
  (t.fired x).any fun i => (x.cond i).kind == .first

/-- The Seen-Node Sets after an evaluation: the source added once if a FIRST condition fired (R102). -/
def Trigger.seenAfter (t : Trigger) (x : Summary) : Cells Bool :=
  if t.firstFired x then Cells.write false t.seen (seenKey x.cls x.source) true else t.seen

/-- The record request of a summary with its fired set: the cause is its lowest index (R106). -/
def recordRequest (x : Summary) (fired : List Nat) : RecordRequest :=
  { cls := x.cls, cause := fired.headD 0, fired := fired, source := x.source, seq := x.seq,
    stamp := x.stamp, values := x.values }

/-- The evaluation of a summary taken from the head of the queue (R90). -/
def Trigger.evaluate (t : Trigger) (x : Summary) (rest : List Summary) : Trigger :=
  let fired := t.fired x
  { t with queue := rest, conds := t.condsAfter x, seen := t.seenAfter x,
           handOff := if fired = [] then none else some (recordRequest x fired) }

/-- The evaluation event, taken when the unit is RUNNING, the queue is not empty and the hand-off is
empty (R90). -/
def evaluateHead (s : State) : State :=
  match s.trigger.state, s.trigger.queue, s.trigger.handOff with
  | .running, x :: rest, none => s.withTrigger (s.trigger.evaluate x rest)
  | _, _, _ => s

/-! ### Meanings -/

/-- SUMMARY_ARRIVAL (R69). -/
def execSummaryArrival (s : State) : Host.Outcome State Fault Refusal := .next (s.ifPowered summaryArrive)

/-- EVALUATION (R90). -/
def execEvaluation (s : State) : Host.Outcome State Fault Refusal := .next (s.ifPowered evaluateHead)

/-- ARM_NOTICE (R86). -/
def execArmNotice (s : State) : Host.Outcome State Fault Refusal :=
  .next (s.ifPowered (takeNotice .arm Trigger.arm))

/-- STOP_NOTICE (R87). -/
def execStopNotice (s : State) : Host.Outcome State Fault Refusal :=
  .next (s.ifPowered (takeNotice .stop Trigger.freeze))

/-- CLEAR_NOTICE (R87). -/
def execClearNotice (s : State) : Host.Outcome State Fault Refusal :=
  .next (s.ifPowered (takeNotice .clear Trigger.freeze))

end Sys2Proof.Machine
end

