-- ==== Sys2Proof/Machine/Classifier.lean ====
section
/-! DEFINITION. The Classifier: the fate of an accepted frame (2.1) and the full lookup of a DATA frame
(chapter 4). -/

namespace Sys2Proof.Machine

/-! ### The Match List -/

/-- The actions of a Match List entry (R57). -/
inductive Action where
  | pass
  | passRecord
  | hold
  | recordOnly
  deriving DecidableEq, Repr

/-- Directions (R57). -/
inductive Direction where
  | either
  | downstream
  | upstream
  deriving DecidableEq, Repr

/-- The action an encoding names (11.6). -/
def Action.ofCode : Nat → Option Action
  | 0 => some .pass
  | 1 => some .passRecord
  | 2 => some .hold
  | 3 => some .recordOnly
  | _ => none

/-- The direction an encoding names (11.6). -/
def Direction.ofCode : Nat → Option Direction
  | 0 => some .either
  | 1 => some .downstream
  | 2 => some .upstream
  | _ => none

/-- Whether a direction matches frames accepted at a port (R59). -/
def Direction.admits : Direction → Port → Bool
  | .either, _ => true
  | .downstream, p => p == .U
  | .upstream, p => p == .D

/-- A well-formed Match List entry that is enabled (R57). The node fields are whole bytes; 255 is ANY. -/
structure MatchEntry where
  direction : Direction
  action : Action
  cls : Nat
  source : Nat
  destination : Nat
  minLength : Nat
  keyPresent : Bool
  keyOffset : Nat
  keyValue : Word
  keyMask : Word
  deriving DecidableEq, Repr

/-- Entry `i` of a Match List page: none when it is disabled or malformed, since either takes no part
in the search (R57, 11.6). -/
def matchEntry (page : Nat → Word) (i : Nat) : Option MatchEntry :=
  let w := fun k => page (8 * i + k)
  if !wordBit (w 0) 15 then none
  else
    match Direction.ofCode (wordField (w 0) 12 2), Action.ofCode (wordField (w 0) 8 3) with
    | some d, some a =>
      let cls := wordField (w 0) 0 8
      let source := wordField (w 1) 8 8
      let dest := wordField (w 1) 0 8
      let minLength := wordField (w 2) 8 8
      let offset := wordField (w 2) 0 8
      let key := wordBit (w 0) 14
      if 31 < cls ∨ (126 < source ∧ source ≠ 255) ∨ (127 < dest ∧ dest ≠ 255) ∨ 64 < minLength
          ∨ (key = true ∧ 62 < offset) then none
      else some ⟨d, a, cls, source, dest, minLength, key, offset, w 3, w 4⟩
    | _, _ => none

/-- The key test (R60). -/
def MatchEntry.keyHolds (e : MatchEntry) (payload : List Byte) : Bool :=
  !e.keyPresent ||
    (decide (e.keyOffset + 2 ≤ payload.length) &&
      (BitVec.ofNat 16 (numberOf ((payload.drop e.keyOffset).take 2)) &&& e.keyMask)
        == (e.keyValue &&& e.keyMask))

/-- Whether an entry matches a frame accepted at a port (R59). -/
def MatchEntry.holds (e : MatchEntry) (p : Port) (f : Frame) : Bool :=
  e.direction.admits p && (e.source == 255 || e.source == f.src.toNat)
    && (e.destination == 255 || e.destination == f.dst.toNat)
    && decide (e.minLength ≤ f.payload.length) && e.keyHolds f.payload

/-- The winner: the first enabled, well-formed entry that matches (R58). -/
def matchSearch (page : Nat → Word) (p : Port) (f : Frame) : Option MatchEntry :=
  (List.range 32).findSome? fun i =>
    match matchEntry page i with
    | some e => if e.holds p f then some e else none
    | none => none

/-! ### The recording part -/

/-- Whether an action records (R67). -/
def Action.records : Action → Bool
  | .passRecord | .recordOnly => true
  | _ => false

/-- The exclude flag of a node's entry (R64, 11.6). -/
def excluded (page : Nat → Word) (node : Byte) : Bool := wordBit (page (2 * node.toNat)) 0

/-- The seq-check flag of a node's entry (R64, 11.6). -/
def seqChecked (page : Nat → Word) (node : Byte) : Bool := wordBit (page (2 * node.toNat)) 1

/-- The last sequence number of a node, or absent (R65). -/
def Classifier.lastSeq (c : Classifier) (node : Byte) : Option Byte := Cells.read none c.nodeState node.toNat

/-- The Node State Table entry of a source takes its sequence (R65). -/
def Classifier.tookSeq (c : Classifier) (node seq : Byte) : Classifier :=
  { c with nodeState := Cells.write none c.nodeState node.toNat (some seq) }

/-- The summary of a frame (R68). -/
def makeSummary (fieldMap triggerSet : Nat → Word) (cls : Nat) (gap : Bool) (x : Accepted) : Summary :=
  { cls := cls, source := x.frame.src, seq := x.frame.seq, gap := gap, stamp := x.stamp,
    values := valueList fieldMap cls x.frame.payload, conds := readConds triggerSet cls }

/-! ### Counters and tables -/

/-- A class counted (R71). -/
def Classifier.countClass (c : Classifier) (cls : Nat) : Classifier :=
  { c with classCount := Cells.write 0 c.classCount cls (bump (Cells.read 0 c.classCount cls)) }

/-- The Node Location Map value of an arrival port (R22). -/
def sideOf : Port → Side
  | .U => .up
  | .D => .down

/-- The map entry of a source set to its arrival port (R22). -/
def Classifier.heard (c : Classifier) (node : Byte) (p : Port) : Classifier :=
  { c with nodeMap := Cells.write .unknown c.nodeMap node.toNat (sideOf p) }

/-- Every map entry that names a port becomes UNKNOWN (R23). -/
def Classifier.portDown (c : Classifier) (p : Port) : Classifier :=
  { c with nodeMap := Cells.forget c.nodeMap (sideOf p) }

/-- The Classifier at its RESTART event (R22, R65). -/
def Classifier.restarted (c : Classifier) : Classifier := { c with nodeMap := [], nodeState := [] }

/-- A change of the Classifier in place. -/
def State.onClassifier (s : State) (f : Classifier → Classifier) : State := s.withClassifier (f s.classifier)

/-! ### The lookup -/

/-- A frame accepted at a port forwarded: handed to the Transit Queue toward the other port (R19, R25). -/
def forward (p : Port) (f : Frame) (s : State) : State := s.onPort (otherPort p) (PortState.handTransit f)

/-- A request handed to the Agent (R19, R20). -/
def handRequest (p : Port) (f : Frame) (s : State) : State :=
  s.onPort p fun x => { x with request := some ⟨p, f.src, f.seq, f.payload⟩ }

/-- The forwarding part of an action (R21); a HOLD is counted HOLD-DISCARD. -/
def actForward (a : Action) (p : Port) (f : Frame) (s : State) : State :=
  match a with
  | .pass => forward p f s
  | .passRecord => forward p f s
  | .hold => s.onClassifier fun c => { c with holdDiscard := bump c.holdDiscard }
  | .recordOnly => s

/-- The Classifier when page 10 resolved: the source's entry takes the frame's sequence (R63, R65). -/
def nodeUpdate (nodeTable : Option (Nat → Word)) (f : Frame) (c : Classifier) : Classifier :=
  match nodeTable with
  | some _ => c.tookSeq f.src f.seq
  | none => c

/-- The summary a recording frame makes, if it makes one: its pages all resolved, its source not
excluded, the Trigger Unit RUNNING (R63, R67). -/
def summaryOf (nodeTable fieldMap triggerSet : Option (Nat → Word)) (cls : Nat) (x : Accepted) (s : State) :
    Option Summary :=
  match nodeTable, fieldMap, triggerSet with
  | some n, some m, some t =>
    if excluded n x.frame.src ∨ s.trigger.state = .frozen then none
    else
      some (makeSummary m t cls
        (gapFlag (seqChecked n x.frame.src) (s.classifier.lastSeq x.frame.src) x.frame.seq) x)
  | _, _, _ => none

/-- Whether a lookup needed a page that was unavailable (R63). -/
def someUnavailable (a b c : Option (Nat → Word)) : Bool := a.isNone || b.isNone || c.isNone

/-- A summary handed to the Trigger Unit (R69). -/
def passSummary (x : Option Summary) (s : State) : State :=
  match x with
  | some y => s.withTrigger { s.trigger with passage := some y }
  | none => s

/-- The lookup of a matched frame (R61, R63 to R69, R71). Every table is read in the state `s`, before
this lookup's changes. -/
def lookupMatched (p : Port) (x : Accepted) (e : MatchEntry) (s : State) : State :=
  let nodes := pageContent s 10
  let map := pageContent s (fieldMapPage e.cls)
  let set := pageContent s (triggerSetPage e.cls)
  let s1 := s.onClassifier fun c => nodeUpdate nodes x.frame (c.countClass e.cls)
  let s2 := actForward e.action p x.frame s1
  if e.action.records then
    if someUnavailable nodes map set then
      s2.onClassifier fun c => { c with unresolved := bump c.unresolved }
    else passSummary (summaryOf nodes map set e.cls x s) s2
  else s2

/-- The lookup of an unmatched frame (R61). -/
def lookupUnmatched (p : Port) (f : Frame) (s : State) : State :=
  let s1 := s.onClassifier fun c => { c with unmatched := bump c.unmatched }
  match s.agent.profile.unmatched with
  | .pass => forward p f s1
  | .hold => s1.onClassifier fun c => { c with holdDiscard := bump c.holdDiscard }

/-- The full lookup of a DATA frame (R56). Page 1 unavailable: UNRESOLVED, forwarded as PASS (R62). -/
def lookupFull (p : Port) (x : Accepted) (s : State) : State :=
  match pageContent s 1 with
  | none => forward p x.frame (s.onClassifier fun c => { c with unresolved := bump c.unresolved })
  | some page =>
    match matchSearch page p x.frame with
    | some e => lookupMatched p x e s
    | none => lookupUnmatched p x.frame s

/-- The fate of a frame by kind and destination (R19, R20). -/
def fate (p : Port) (x : Accepted) (s : State) : State :=
  let f := x.frame
  let own := s.agent.profile.address
  match f.kind with
  | .mgmtReq =>
    if f.dst = own then handRequest p f s
    else if f.dst = 127 ∧ ReqKind.ofPayload f.payload = some .identify then forward p f (handRequest p f s)
    else forward p f s
  | .sync => forward p f s
  | .mgmtRsp => forward p f s
  | .alert => forward p f s
  | .data =>
    if f.dst = own then s.onClassifier fun c => { c with toSelf := bump c.toSelf }
    else lookupFull p x s

/-- What is taken before the next lookup of a frame of a port: the intake of the request that waits
there (R177), and the arrival of the summary in passage (R69; log entry 13). -/
def clearWay (p : Port) (s : State) : State := summaryArrive (intake p s)

/-- The lookup of the frame that waits at a port (R19): what waits before it is taken first; the
frame's map entry is set whatever its fate (R22). -/
def lookup (p : Port) (s : State) : State :=
  match (s.port p).accepted with
  | none => s
  | some x =>
    let s1 := (clearWay p s).onPort p fun y => { y with accepted := none }
    fate p x (s1.onClassifier fun c => c.heard x.frame.src p)

/-! ### Meanings -/

/-- LOOKUP (R19). -/
def execLookup (p : Port) (s : State) : Host.Outcome State Fault Refusal := .next (s.ifPowered (lookup p))

end Sys2Proof.Machine
end

