-- ==== Sys2Proof/Machine/Link.lean ====
section
/-! DEFINITION. The ports' receivers and link states, the Time Base, and transmission completion
(chapters 1 and 2). -/

namespace Sys2Proof.Machine

/-! ### The line and the link measurements -/

/-- The measurement that runs in a link state while the line is in a condition: valid idle in LINK-DOWN,
silence in LINK-UP (1.6). -/
def measureFor : LinkState → LineCond → Option Nat
  | .down, .idle => some Config.linkUpWait
  | .up, .silence => some Config.linkDownWait
  | _, _ => none

/-- The line comes to a condition: the link measurement starts again (R10, R11), and an idle symbol ends
the wait that follows a broken-off run (R8). Silence or an invalid symbol outside a run leaves a receiver in
LINK-UP ready: data that follows it with no idle between begins a run, which R5 leaves open (DESIGN CHOICE, log
entry 31). -/
def PortState.lineTo (x : PortState) (c : LineCond) : PortState :=
  { x with line := c, measure := measureFor x.link c,
           awaitIdle := if c = .idle then false else x.awaitIdle }

/-- Whether the receiver takes frames: in LINK-UP, and not waiting for an idle symbol (R5, R8). -/
def PortState.takes (x : PortState) : Bool := x.link == .up && !x.awaitIdle

/-- A run broken off (R8): counted once when the receiver was taking it, and the receiver then waits
for an idle symbol. In LINK-DOWN, and while it waits, data is ignored (R5). -/
def PortState.breakRun (x : PortState) (c : LineCond) : PortState :=
  if x.takes then
    { x with rxFormatErr := bump x.rxFormatErr, awaitIdle := true }.lineTo c
  else x.lineTo c

/-- The line condition that breaks a run off. -/
def breakCond : RunBreak → LineCond
  | .invalid => .invalid
  | .silence => .silence

/-- RUN_BROKEN_OFF at a port (R8). -/
def runBroken (p : Port) (how : RunBreak) (s : State) : State :=
  s.onPort p fun x => x.breakRun (breakCond how)

/-- A change of the line condition at a port whose receiver listens (R5, R8, R10, R11). While a run is
being taken, an invalid symbol or silence breaks it off, and an idle symbol completes it: the latter is
FRAME_ARRIVAL and no change here (log entry 6). -/
def PortState.lineChange (x : PortState) (c : LineCond) : PortState :=
  if x.line = c then x
  else if x.line = .data ∧ x.takes then (if c = .idle then x else x.breakRun c)
  else x.lineTo c

/-- LINE_CONDITION_CHANGE (R10). The line of an unpowered bridge changes too; nothing measures it. -/
def lineChange (p : Port) (c : LineCond) (s : State) : State :=
  if s.powered then s.onPort p (·.lineChange c)
  else s.onPort p fun x => { x with line := c }

/-! ### The Time Base -/

/-- The first six payload bytes of a frame as a time (R15). -/
def syncTime (f : Frame) : Micros := BitVec.ofNat 48 (numberOf (f.payload.take 6))

/-- Whether a SYNC frame sets the time (R15). -/
def TimeBase.setBy (t : TimeBase) (f : Frame) : Bool :=
  f.kind == .sync && decide (6 ≤ f.payload.length) &&
    (match t.timeMaster with
     | some m => f.src == m
     | none => true)

/-- The time set (R15): Link Time takes the value carried, which then counts from a whole microsecond
(log entry 4). -/
def TimeBase.setTo (t : TimeBase) (v : Micros) : TimeBase :=
  { t with linkTime := v, sub := 0, synced := true, lossTimer := some Config.syncLossWait }

/-- An accepted frame offered to the Time Base (R15). -/
def TimeBase.offered (t : TimeBase) (f : Frame) : TimeBase := if t.setBy f then t.setTo (syncTime f) else t

/-- The sync-loss timer expires, with the time left on it passed (R16; log entry 3). -/
def syncLost (s : State) : State :=
  match s.time.lossTimer with
  | none => s
  | some n =>
    let s' := elapse n s
    raise .syncLost (s'.withTime { s'.time with synced := false, lossTimer := none })

/-! ### Reception -/

/-- A frame accepted at a port (R7): RX-GOOD, the arrival stamp, the offer of a SYNC frame to the Time
Base. The stamp is taken before the frame sets the time (log entry 7). -/
def accept (p : Port) (f : Frame) (s : State) : State :=
  let stamp := stampNow s
  (s.onPort p fun x => { x with rxGood := bump x.rxGood, accepted := some ⟨f, stamp⟩ }).withTime
    (s.time.offered f)

/-- A run judged at a port that takes it (R6). The lookup of the frame accepted before at the port is
taken before a further acceptance (R7). -/
def judgeAt (p : Port) (run : List Byte) (s : State) : State :=
  match judgeRun run with
  | .formatErr => s.onPort p fun x => { x with rxFormatErr := bump x.rxFormatErr }
  | .checkErr => s.onPort p fun x => { x with rxCheckErr := bump x.rxCheckErr }
  | .good f => accept p f (lookup p s)

/-- FRAME_ARRIVAL (R5, R6): the run ends in an idle symbol. A port that takes no frames ignores the
bytes, which still break valid idle (R5). What the line was before the run is not asked (DESIGN CHOICE, log entry
31). -/
def frameArrives (p : Port) (run : List Byte) (s : State) : State :=
  if run = [] then s
  else
    let s' := s.onPort p (·.lineTo .idle)
    if (s.port p).takes then judgeAt p run s' else s'

/-! ### Link state -/

/-- LINK_UP (R10): the valid idle has lasted; the time left of it passes. The Arbiter is told. -/
def linkGoesUp (p : Port) (s : State) : State :=
  match (s.port p).link, (s.port p).measure with
  | .down, some n =>
    (elapse n s).onPort p fun x =>
      PortState.arbitrate { x with link := .up, awaitIdle := false, measure := none }
  | _, _ => s

/-- LINK_DOWN (R11): the silence has lasted; the time left of it passes. The egress side (R33) and the
Classifier's map (R23) follow at the same event. -/
def linkGoesDown (p : Port) (s : State) : State :=
  match (s.port p).link, (s.port p).measure with
  | .up, some n =>
    ((elapse n s).onPort p fun x =>
      PortState.egressDown { x with link := .down, awaitIdle := false, measure := none }).onClassifier
        (·.portDown p)
  | _, _ => s

/-! ### Transmission -/

/-- Transmission completion at a port (R31): counted, IDLE, and the Arbiter chooses again. -/
def PortState.txDone (x : PortState) : PortState :=
  PortState.arbitrate { x with txFrames := bump x.txFrames, sending := none }

/-- TX_COMPLETE (R31): the wire time left passes. -/
def txCompletes (p : Port) (s : State) : State :=
  match (s.port p).sending with
  | none => s
  | some y => (elapse y.left s).onPort p PortState.txDone

/-! ### Meanings -/

/-- FRAME_ARRIVAL (R6). -/
def execFrameArrival (p : Port) (run : List Byte) (s : State) : Host.Outcome State Fault Refusal :=
  .next (s.ifPowered (frameArrives p run))

/-- RUN_BROKEN_OFF (R8). -/
def execRunBrokenOff (p : Port) (how : RunBreak) (s : State) : Host.Outcome State Fault Refusal :=
  .next (s.ifPowered (runBroken p how))

/-- LINK_UP (R10). -/
def execLinkUp (p : Port) (s : State) : Host.Outcome State Fault Refusal :=
  .next (s.ifPowered (linkGoesUp p))

/-- LINK_DOWN (R11). -/
def execLinkDown (p : Port) (s : State) : Host.Outcome State Fault Refusal :=
  .next (s.ifPowered (linkGoesDown p))

/-- SYNC_LOSS_EXPIRY (R16). -/
def execSyncLossExpiry (s : State) : Host.Outcome State Fault Refusal := .next (s.ifPowered syncLost)

/-- TX_COMPLETE (R31). -/
def execTxComplete (p : Port) (s : State) : Host.Outcome State Fault Refusal :=
  .next (s.ifPowered (txCompletes p))

/-- LINE_CONDITION_CHANGE (R10). -/
def execLineConditionChange (p : Port) (c : LineCond) (s : State) : Host.Outcome State Fault Refusal :=
  .next (lineChange p c s)

end Sys2Proof.Machine
end

