-- ==== Sys2Proof/Machine/StartUp.lean ====
section
/-! DEFINITION. Start-up and loss of power (R172 to R174), the RESTART events of the blocks and the
autostart that follows them (R194). -/

namespace Sys2Proof.Machine

/-! ### Power -/

/-- The store when power is lost or RESET_N asserted: the persistent state stays, the volatile state
goes (R149, R172, R173). -/
def Store.volatileLost (t : Store) (guard : Bool) : Store :=
  { t with engine := none, latch := .none, last := none, guard := guard }

/-- POWER_LOSS (R172): the bridge without power. Its volatile parts are held at their POR values, which
nothing reads before the next POR sets them (log entry 9). The lines and the strap are the outside's. -/
def powerOff (s : State) : State :=
  { State.reset with
    powered := false
    strap := s.strap
    portU := { PortState.atPor s.portU.line with measure := none }
    portD := { PortState.atPor s.portD.line with measure := none }
    store := s.store.volatileLost false
    draws := s.draws
    pending := s.pending }

/-- Start-up steps 1 to 4 (R174): POR values, the store's persistent state and the STORE_GUARD level,
the profile load, and link detection. `took` is the bit times that passed before link detection (log entry 14). -/
def startUp (guard : Bool) (strap : BitVec 2) (took : Nat) (s : State) : State :=
  let store := s.store.volatileLost guard
  let agent := Agent.load store strap (Agent.atPor (Profile.bare strap) .absent strap guard)
  { powered := true
    strap := strap
    time := { elapseTime took TimeBase.atPor with timeMaster := agent.profile.timeMaster }
    portU := PortState.atPor s.portU.line
    portD := PortState.atPor s.portD.line
    classifier := Classifier.atPor
    resolver := Resolver.atPor
    store := store
    trigger := Trigger.atPor
    capture := Capture.atPor agent.profile.defaultMode
    agent := agent
    draws := s.draws
    pending := s.pending }

/-- CAPTURE-ARM with no limit when the Active Profile names autostart (R174 step 5, R194). -/
def autostart (s : State) : State := if s.agent.profile.autostart then autoArm s else s

/-! ### The RESTART events of the blocks -/

/-- The oldest RESTART that still waits for an event has it marked as carried out; none when no RESTART
waits for it. -/
def markFirst (due : Restarting → Bool) (mark : Restarting → Restarting) :
    List Restarting → Option (List Restarting)
  | [] => none
  | x :: rest => if due x then some (mark x :: rest) else (markFirst due mark rest).map (x :: ·)

/-- A block's RESTART event, when one is owed (R194). -/
def restartEvent (due : Restarting → Bool) (mark : Restarting → Restarting) (act : State → State)
    (s : State) : State :=
  match markFirst due mark s.agent.restarts with
  | none => s
  | some rs => act (s.withAgent { s.agent with restarts := rs })

/-- The egress side of a port marked. -/
def Restarting.markEgress (p : Port) (x : Restarting) : Restarting :=
  match p with
  | .U => { x with egressU := false }
  | .D => { x with egressD := false }

/-- EGRESS_RESTART (R26). -/
def restartEgress (p : Port) : State → State :=
  restartEvent (·.egress p) (·.markEgress p) (·.onPort p PortState.egressRestart)

/-- CLASSIFIER_RESTART (R22, R65). -/
def restartClassifier : State → State :=
  restartEvent (·.classifier) (fun x => { x with classifier := false }) (·.onClassifier Classifier.restarted)

/-- RESOLVER_RESTART (R55). -/
def restartResolver : State → State :=
  restartEvent (·.resolver) (fun x => { x with resolver := false })
    fun s => s.withResolver s.resolver.restart

/-- TRIGGER_RESTART (R88). Taken after the ARM notice of a CAPTURE-ARM that came after CAPTURE_RESTART, it freezes
the unit all the same, and the capture stays ARMED (R194; DESIGN CHOICE, log entry 32). -/
def restartTrigger : State → State :=
  restartEvent (·.trigger) (fun x => { x with trigger := false }) fun s => s.withTrigger s.trigger.freeze

/-- CAPTURE_RESTART (R131). -/
def restartCapture : State → State :=
  restartEvent (·.capture) (fun x => { x with capture := false }) (stopCapture .restart)

/-- TIME_BASE_RESTART (R17). -/
def restartTimeBase : State → State :=
  restartEvent (·.timeBase) (fun x => { x with timeBase := false })
    fun s => s.withTime { s.time with timeMaster := s.agent.profile.timeMaster }

/-- No event of the blocks is owed any more. -/
def Restarting.done : Restarting := ⟨false, false, false, false, false, false, false⟩

/-- AUTOSTART (R194): when every block has carried out its event for the oldest RESTART. -/
def autostartEvent (s : State) : State :=
  match s.agent.restarts with
  | x :: rest => if x = Restarting.done then autostart (s.withAgent { s.agent with restarts := rest }) else s
  | [] => s

/-! ### Meanings -/

/-- POR (R174): RESET_N is released, from power off or after RESET_N was asserted. -/
def execPor (guard : Bool) (strap : BitVec 2) (took : Nat) (s : State) : Host.Outcome State Fault Refusal :=
  .next (autostart (startUp guard strap took s))

/-- POWER_LOSS (R172). -/
def execPowerLoss (s : State) : Host.Outcome State Fault Refusal := .next (powerOff s)

/-- EGRESS_RESTART (R26). -/
def execEgressRestart (p : Port) (s : State) : Host.Outcome State Fault Refusal :=
  .next (s.ifPowered (restartEgress p))

/-- CLASSIFIER_RESTART (R65). -/
def execClassifierRestart (s : State) : Host.Outcome State Fault Refusal :=
  .next (s.ifPowered restartClassifier)

/-- RESOLVER_RESTART (R55). -/
def execResolverRestart (s : State) : Host.Outcome State Fault Refusal := .next (s.ifPowered restartResolver)

/-- TRIGGER_RESTART (R88). -/
def execTriggerRestart (s : State) : Host.Outcome State Fault Refusal := .next (s.ifPowered restartTrigger)

/-- CAPTURE_RESTART (R131). -/
def execCaptureRestart (s : State) : Host.Outcome State Fault Refusal := .next (s.ifPowered restartCapture)

/-- TIME_BASE_RESTART (R17). -/
def execTimeBaseRestart (s : State) : Host.Outcome State Fault Refusal := .next (s.ifPowered restartTimeBase)

/-- AUTOSTART (R194). -/
def execAutostart (s : State) : Host.Outcome State Fault Refusal := .next (s.ifPowered autostartEvent)

end Sys2Proof.Machine
end

