-- ==== Sys2Proof/Machine/Dispatch.lean ====
section
/-! DEFINITION. The meaning of each command: one arm per constructor of `Instr`, in the order of
spec/opcode_table.json. -/

namespace Sys2Proof.Machine

def exec (i : Instr) (s : State) : Host.Outcome State Fault Refusal :=
  match i with
  | .por guard strap took => Sys2Proof.Machine.execPor guard strap took s
  | .frameArrival p run => Sys2Proof.Machine.execFrameArrival p run s
  | .runBrokenOff p how => Sys2Proof.Machine.execRunBrokenOff p how s
  | .linkUp p => Sys2Proof.Machine.execLinkUp p s
  | .linkDown p => Sys2Proof.Machine.execLinkDown p s
  | .syncLossExpiry => Sys2Proof.Machine.execSyncLossExpiry s
  | .lookup p => Sys2Proof.Machine.execLookup p s
  | .summaryArrival => Sys2Proof.Machine.execSummaryArrival s
  | .evaluation => Sys2Proof.Machine.execEvaluation s
  | .recordRequestArrival => Sys2Proof.Machine.execRecordRequestArrival s
  | .armNotice => Sys2Proof.Machine.execArmNotice s
  | .stopNotice => Sys2Proof.Machine.execStopNotice s
  | .clearNotice => Sys2Proof.Machine.execClearNotice s
  | .txComplete p => Sys2Proof.Machine.execTxComplete p s
  | .unknownRequest p => Sys2Proof.Machine.execUnknownRequest p s
  | .identify p => Sys2Proof.Machine.execIdentify p s
  | .status p => Sys2Proof.Machine.execStatus p s
  | .statusPartRead b => Sys2Proof.Machine.execStatusPartRead b s
  | .counters p => Sys2Proof.Machine.execCounters p s
  | .countersPartRead b => Sys2Proof.Machine.execCountersPartRead b s
  | .countersClear p => Sys2Proof.Machine.execCountersClear p s
  | .countersPartClear b => Sys2Proof.Machine.execCountersPartClear b s
  | .restart p strap => Sys2Proof.Machine.execRestart p strap s
  | .egressRestart p => Sys2Proof.Machine.execEgressRestart p s
  | .classifierRestart => Sys2Proof.Machine.execClassifierRestart s
  | .resolverRestart => Sys2Proof.Machine.execResolverRestart s
  | .triggerRestart => Sys2Proof.Machine.execTriggerRestart s
  | .captureRestart => Sys2Proof.Machine.execCaptureRestart s
  | .timeBaseRestart => Sys2Proof.Machine.execTimeBaseRestart s
  | .autostart => Sys2Proof.Machine.execAutostart s
  | .openSession p => Sys2Proof.Machine.execOpenSession p s
  | .closeSession p => Sys2Proof.Machine.execCloseSession p s
  | .sessionExpiry => Sys2Proof.Machine.execSessionExpiry s
  | .alertAck p => Sys2Proof.Machine.execAlertAck p s
  | .alertSend => Sys2Proof.Machine.execAlertSend s
  | .ackTimerExpiry => Sys2Proof.Machine.execAckTimerExpiry s
  | .agentGuardFall => Sys2Proof.Machine.execAgentGuardFall s
  | .agentGuardRise => Sys2Proof.Machine.execAgentGuardRise s
  | .tuneWrite st => Sys2Proof.Machine.execTuneWrite st s
  | .tuneRead st => Sys2Proof.Machine.execTuneRead st s
  | .windowSet st => Sys2Proof.Machine.execWindowSet st s
  | .windowRead st => Sys2Proof.Machine.execWindowRead st s
  | .pageRead st => Sys2Proof.Machine.execPageRead st s
  | .storeProgram st => Sys2Proof.Machine.execStoreProgram st s
  | .storeErase st => Sys2Proof.Machine.execStoreErase st s
  | .storeLock st => Sys2Proof.Machine.execStoreLock st s
  | .storeUnlockErase st => Sys2Proof.Machine.execStoreUnlockErase st s
  | .storeAbort st => Sys2Proof.Machine.execStoreAbort st s
  | .storeClearFault st => Sys2Proof.Machine.execStoreClearFault st s
  | .storeStatus st => Sys2Proof.Machine.execStoreStatus st s
  | .programErasingComplete => Sys2Proof.Machine.execProgramErasingComplete s
  | .writingComplete => Sys2Proof.Machine.execWritingComplete s
  | .verifyComplete held => Sys2Proof.Machine.execVerifyComplete held s
  | .eraseComplete succeeded => Sys2Proof.Machine.execEraseComplete succeeded s
  | .lockComplete => Sys2Proof.Machine.execLockComplete s
  | .storeGuardFall => Sys2Proof.Machine.execStoreGuardFall s
  | .storeGuardRise => Sys2Proof.Machine.execStoreGuardRise s
  | .captureArm st => Sys2Proof.Machine.execCaptureArm st s
  | .captureStop st => Sys2Proof.Machine.execCaptureStop st s
  | .captureClear st => Sys2Proof.Machine.execCaptureClear st s
  | .captureMode st => Sys2Proof.Machine.execCaptureMode st s
  | .captureMark st => Sys2Proof.Machine.execCaptureMark st s
  | .readNext st => Sys2Proof.Machine.execReadNext st s
  | .readBlock st => Sys2Proof.Machine.execReadBlock st s
  | .readSlot st => Sys2Proof.Machine.execReadSlot st s
  | .setReadCursor st => Sys2Proof.Machine.execSetReadCursor st s
  | .powerLoss => Sys2Proof.Machine.execPowerLoss s
  | .lineConditionChange p c => Sys2Proof.Machine.execLineConditionChange p c s

end Sys2Proof.Machine
end

