-- ==== Sys2Proof/Machine/Step.lean ====
section
/-! DEFINITION. One step of the block: the command at the front of the queue is taken and carried out.
On an empty queue time passes (log entry 3). -/

namespace Sys2Proof.Machine

/-- What a step does when no command waits: one microsecond passes at a powered bridge (R14; log entry
3). -/
def idleStep (s : State) : State := s.ifPowered (elapse Config.bitsPerMicro)

/-- One step: the command at the front of the queue on the state with the queue's rest. -/
def step (s : State) : Host.Outcome State Fault Refusal :=
  match s.pending with
  | [] => .next (idleStep s)
  | i :: rest => exec i (s.withPending rest)

/-- `s` with the command that a word of the table's bits spells put at the front of its queue; `s`
itself where the word spells none, which is every word (log entry 2). -/
def State.withFetchWord (s : State) (nbits w : Nat) : State :=
  match Sys2Proof.decodeTableWord nbits w with
  | some i => s.withPending (i :: s.pending)
  | none => s

end Sys2Proof.Machine
end

