-- ==== Sys2Proof/Safety.lean ====
section
/-! DEFINITION. What a legal state of the bridge is, block by block: the relations between parts of the
state that the rules keep, each an invariant that every step preserves; and the few notions in which
statements about requests are made. -/

namespace Sys2Proof.Machine

/-! ### Canonical tables -/

/-- Every addressed table is in its one canonical form. -/
structure TablesOk (s : State) : Prop where
  nodeMap : Cells.Wf Side.unknown s.classifier.nodeMap
  nodeState : Cells.Wf none s.classifier.nodeState
  classCount : Cells.Wf 0 s.classifier.classCount
  tuning : Cells.Wf 0 s.resolver.tuning
  windows : Cells.Wf Window.atPor s.resolver.windows
  pins : Cells.Wf false s.resolver.pins
  pageState : Cells.Wf PageState.erased s.store.pageState
  locked : Cells.Wf false s.store.locked
  eraseCount : Cells.Wf 0 s.store.eraseCount
  words : Cells.Wf 0 s.store.words
  conds : Cells.Wf CondState.atArm s.trigger.conds
  seen : Cells.Wf false s.trigger.seen
  ring : Cells.Wf none s.capture.ring

/-! ### The egress sides and the receivers -/

/-- A port's egress side (R24, R29, R33, R34): the Transit Queue holds at most 8 frames and the passover
count is at most 3; a LINK-DOWN port has empty queues, sends nothing and has the passover count 0; an
idle transmitter of a LINK-UP port leaves no frame waiting. -/
structure EgressOk (x : PortState) : Prop where
  transitRoom : x.transit.length ≤ 8
  passover : x.passover ≤ 3
  down : x.link = .down → x.transit = [] ∧ x.reply = [] ∧ x.sending = none ∧ x.passover = 0
  idle : x.link = .up → x.sending = none → x.transit = [] ∧ x.reply = []

/-! ### Reply room -/

/-- The reply frames held at a port for requests dispatched singly and not yet answered (R180). -/
def heldSingly (a : Agent) (p : Port) : Nat :=
  ((a.dispatched.filter fun d => d.gather.isNone && d.request.port == p).map (·.held)).sum

/-- The reply frames held at a port for gatherings under way (R180). -/
def heldByGathers (a : Agent) (p : Port) : Nat :=
  ((a.gathers.filter fun g => g.request.port == p).map (·.held)).sum

/-- Reply room (R180): the reservation of a port is what its dispatched requests hold, and the frames in
its Reply Queue and the reservation never exceed 8. -/
structure ReplyRoomOk (s : State) : Prop where
  reserved : ∀ p, (s.port p).reservation = heldSingly s.agent p + heldByGathers s.agent p
  room : ∀ p, (s.port p).reply.length + (s.port p).reservation ≤ 8
  heldOne : ∀ d ∈ s.agent.dispatched, 1 ≤ d.held
  gatherHeldOne : ∀ g ∈ s.agent.gathers, 1 ≤ g.held
  gatherIds : (s.agent.gathers.map (·.id)).Nodup
  gatherNew : ∀ g ∈ s.agent.gathers, g.id < s.agent.nextId

/-! ### The store and the pins -/

/-- The operation in flight: its source, its phase and its page fit its kind (9.2, R158 to R163). -/
structure OperationOk (t : Store) (o : Operation) : Prop where
  page : o.page ≤ 10
  source : o.kind = .program ↔ o.source ≠ none
  sourcePage : ∀ n, o.source = some n → n ≤ 3
  phase : o.phase = .locking ↔ o.kind = .lock
  erasing : o.kind = .erase ∨ o.kind = .unlockErase → o.phase = .erasing
  invalid : o.kind ≠ .lock → t.state o.page = .invalid
  lockFlag : t.isLocked o.page = true ↔ o.kind = .unlockErase

/-- The store (R152, R153, R155, R158): while BUSY the latch is NONE, STORE_GUARD is high and the operation
is a legal one; and a tuning page is pinned exactly while it is the source of the operation (R45). -/
structure StoreOk (s : State) : Prop where
  busyLatch : s.store.engine ≠ none → s.store.latch = .none
  busyGuard : s.store.engine ≠ none → s.store.guard = true
  operation : ∀ o, s.store.engine = some o → OperationOk s.store o
  pinned : ∀ t, s.resolver.pinned t = true ↔ ∃ o, s.store.engine = some o ∧ o.source = some t

/-! ### The Trigger Unit -/

/-- The Trigger Unit (R87, R89): the queue holds at most 16 summaries, and none while FROZEN. -/
structure TriggerOk (t : Trigger) : Prop where
  queueRoom : t.queue.length ≤ 16
  frozen : t.state = .frozen → t.queue = []

/-! ### The Capture Unit -/

/-- The Capture Unit (R109 to R112, R115, R118 to R121): the cursors stand in 0..1023 with U steps from
the read cursor to the write cursor, slot 0 and the slots beyond 1023 hold nothing, no serial is 0, and
each capture state has the counts that its rules leave it. -/
structure CaptureOk (c : Capture) : Prop where
  wcRange : c.wc ≤ 1023
  rcRange : c.rc ≤ 1023
  unread : stepsTo c.rc c.wc = some c.unread
  slots : ∀ e ∈ c.ring, 1 ≤ e.1 ∧ e.1 ≤ 1023
  serial : c.nextSerial ≠ 0
  idle : c.state = .idle → c = Capture.atPor c.mode
  full : c.state = .full → c.mode = .fill ∧ 1007 ≤ c.unread
  armedFill : c.state = .armed → c.mode = .fill → c.unread ≤ 1021
  armedMissed : c.state = .armed → c.missed = 0
  limitRange : c.limit ≤ 65535
  limitOpen : c.state = .armed ∨ c.state = .full → c.limit = 0 ∨ c.limitCount < c.limit

/-- The serials in the ring (R110, R112): nothing is in the ring while the write cursor rests in slot 0, and
the record `d` steps before the write cursor carries the serial that `d + 1` steps bring to the next serial, 1
following the largest. Serials so increase strictly from the slot after the write cursor around to it, but
across their wrap. -/
structure SerialsOk (c : Capture) : Prop where
  resting : c.wc = 0 → ∀ i, c.slot i = none
  rising : ∀ i r d, c.slot i = some r → stepsTo i c.wc = some d →
    r.serial ≠ 0 ∧ (r.serial.toNat + d) % 4294967295 + 1 = c.nextSerial.toNat

/-! ### The Management Agent -/

/-- A profile in the ranges of R175, or the bare-mode settings (R176). -/
structure ProfileOk (p : Profile) : Prop where
  address : 1 ≤ p.address.toNat ∧ p.address.toNat ≤ 126
  managerCount : p.managers.length ≤ 4
  managerRange : ∀ m ∈ p.managers, m.toNat ≤ 126
  managersOnce : p.managers.Nodup
  alertRange : ∀ n, p.alertNode = some n → n.toNat ≤ 126 ∧ n ≠ p.address
  masterRange : ∀ n, p.timeMaster = some n → n.toNat ≤ 126
  blockRange : 1 ≤ p.blockLimit ∧ p.blockLimit ≤ 16
  timeoutRange : 1 ≤ p.timeout ∧ p.timeout ≤ 60

/-- The alert protocol (R190, R191): nothing outstanding means no try, no timer and no retry due;
something outstanding means 1 to 3 tries and either a running timer or a retry due, which only a first
or second try leaves. -/
structure AlertsOk (a : Alerts) : Prop where
  none : a.outstanding = 0 → a.tries = 0 ∧ a.ackTimer = .none ∧ a.retryDue = false
  tries : a.outstanding ≠ 0 → 1 ≤ a.tries ∧ a.tries ≤ 3
  timer : a.outstanding ≠ 0 → (a.retryDue = true ↔ a.ackTimer = .none)
  retry : a.retryDue = true → a.tries ≤ 2

/-- The Agent: the profile in range, no session while STORE_GUARD is low (R183, R185), the session timer
within the timeout (R184), a Retry Cache of at most four entries, one for each requester (R181) and each
made for a different request (R182), the alert protocol in order, with nothing outstanding or unreported
where no alert node is named (R190), and every singly dispatched request at the block that owns it, with a
right length (R177, R179). -/
structure AgentOk (a : Agent) : Prop where
  profile : ProfileOk a.profile
  guardLow : a.guard = false → a.session = none
  sessionLeft : ∀ x, a.session = some x → x.left ≤ a.profile.timeout * 25000000
  cacheRoom : a.cache.length ≤ 4
  cacheNodes : (a.cache.map (·.node)).Nodup
  cacheIds : (a.cache.map (·.id)).Nodup
  cacheOld : ∀ e ∈ a.cache, e.id < a.nextId
  alerts : AlertsOk a.alerts
  noNode : a.profile.alertNode = none → a.alerts.outstanding = 0 ∧ a.alerts.unreported = 0
  dispatched : ∀ d ∈ a.dispatched, d.gather = none →
    ∃ k, d.request.kind = some k ∧ ownerOf k = some d.dest ∧ k.lengthRight d.request.payload = true

/-! ### Legal states -/

/-- Every part of the state as the rules leave it. -/
structure LegalState (s : State) : Prop where
  tables : TablesOk s
  egress : ∀ p, EgressOk (s.port p)
  replyRoom : ReplyRoomOk s
  store : StoreOk s
  trigger : TriggerOk s.trigger
  capture : CaptureOk s.capture
  serials : SerialsOk s.capture
  agent : AgentOk s.agent

/-! ### Alert conditions, as statements speak of them -/

/-- The state with conditions raised at the Agent (R189): they join the pending set, by their bits of the alert
set byte (11.4), and nothing else changes. -/
def State.alerted (s : State) (bits : AlertSet) : State :=
  s.withAgent { s.agent with
    alerts := { s.agent.alerts with pending := s.agent.alerts.pending ||| bits } }

/-! ### Writes of the Capture Unit, as statements speak of them -/

/-- The course of one write (R110, R112, R117): `after` holds the record in the slot next to the write
cursor under the next serial, every other slot as before, and has given up the oldest unread record when
1022 were unread. -/
structure RecordWritten (before : Capture) (stamp : Stamp) (body : RecordBody) (after : Capture) : Prop where
  slot : after.slot (nextSlot before.wc) = some ⟨before.nextSerial, stamp, body⟩
  others : ∀ i, i ≠ nextSlot before.wc → after.slot i = before.slot i
  wc : after.wc = if before.wc = 0 ∨ before.wc = 1023 then 1 else before.wc + 1
  serial : after.nextSerial = if before.nextSerial = 4294967295 then 1 else before.nextSerial + 1
  room : before.unread < 1022 →
    after.unread = before.unread + 1 ∧ after.rc = before.rc ∧ after.overwritten = before.overwritten
  wrapped : ¬ before.unread < 1022 →
    after.unread = before.unread ∧ after.rc = nextSlot before.rc
      ∧ after.overwritten = bump before.overwritten
  rest : after.state = before.state ∧ after.mode = before.mode ∧ after.limit = before.limit
    ∧ after.limitCount = before.limitCount ∧ after.missed = before.missed
    ∧ after.stopReason = before.stopReason

/-- What a read-out or SET-READ-CURSOR that has moved the read cursor to leave `s` comes to (R120, R140):
a FULL capture with 1006 or fewer unread records is ARMED again, with a GAP record when it missed any. -/
def Resumed (s t : State) : Prop :=
  (s.capture.state = .full → s.capture.unread ≤ 1006 →
    (s.capture.missed = 0 → t = s.withCapture { s.capture with state := .armed }) ∧
    (s.capture.missed ≠ 0 →
      ∃ c, RecordWritten { s.capture with state := .armed } (stampNow s) (.gap s.capture.missed) c ∧
        t = s.withCapture { c with missed := 0 })) ∧
  (s.capture.state ≠ .full ∨ 1006 < s.capture.unread → t = s)

/-! ### Store operations, as statements speak of them -/

/-- Steps 1 to 5 of R158 in their order, then the operation's own checks: the result code of the first that
fails, if any. -/
def storeRefusal (s : State) (r : Request) (own : Option Byte) : Option Byte :=
  if s.agent.session.map (·.owner) ≠ some r.source then some 0x07
  else if s.store.guard = false then some 0x0A
  else if s.store.engine ≠ none then some 0x0B
  else if s.store.latch ≠ .none then some 0x0F
  else if 10 < r.field 1 then some 0x05
  else own

/-- The store after the acceptance of an operation that erases page `p` (R150, R151, R153): the page is
INVALID, its erase count is one more, held at 65535, and the engine is ERASING for 8 ms; no other page, no
content, lock flag or record changes. -/
structure EraseBegun (before : Store) (k : OpKind) (p : Nat) (source : Option Nat) (after : Store) : Prop where
  engine : after.engine = some ⟨k, p, source, .erasing, 200000⟩
  state : ∀ q, after.state q = if q = p then .invalid else before.state q
  erases : ∀ q, after.erases q
    = if q = p ∧ before.erases q ≠ 65535 then before.erases q + 1 else before.erases q
  rest : after.words = before.words ∧ after.locked = before.locked ∧ after.latch = before.latch
    ∧ after.last = before.last ∧ after.guard = before.guard

/-- The Page Resolver with one pin mark set or cleared (R45), or none when `t` is none. -/
structure PinSet (before : Resolver) (t : Option Nat) (b : Bool) (after : Resolver) : Prop where
  pins : ∀ u, after.pinned u = if t = some u then b else before.pinned u
  rest : after.tuning = before.tuning ∧ after.windows = before.windows

/-! ### Requests, as statements speak of them -/

/-- The command that is one event of a request (R177, R179): its intake at a port, or its event at the
owner. The Agent's own requests have only the intake; `strap` is what a RESTART reads at its reload. -/
def requestCommand (strap : BitVec 2) : ReqKind → Port → Instr
  | .identify, p => .identify p
  | .status, p => .status p
  | .counters, p => .counters p
  | .countersClear, p => .countersClear p
  | .restart, p => .restart p strap
  | .openSession, p => .openSession p
  | .closeSession, p => .closeSession p
  | .alertAck, p => .alertAck p
  | .tuneWrite, p => .tuneWrite (.intake p)
  | .tuneRead, p => .tuneRead (.intake p)
  | .windowSet, p => .windowSet (.intake p)
  | .windowRead, p => .windowRead (.intake p)
  | .pageRead, p => .pageRead (.intake p)
  | .storeProgram, p => .storeProgram (.intake p)
  | .storeErase, p => .storeErase (.intake p)
  | .storeLock, p => .storeLock (.intake p)
  | .storeUnlockErase, p => .storeUnlockErase (.intake p)
  | .storeAbort, p => .storeAbort (.intake p)
  | .storeClearFault, p => .storeClearFault (.intake p)
  | .storeStatus, p => .storeStatus (.intake p)
  | .captureArm, p => .captureArm (.intake p)
  | .captureStop, p => .captureStop (.intake p)
  | .captureClear, p => .captureClear (.intake p)
  | .captureMode, p => .captureMode (.intake p)
  | .captureMark, p => .captureMark (.intake p)
  | .readNext, p => .readNext (.intake p)
  | .readBlock, p => .readBlock (.intake p)
  | .readSlot, p => .readSlot (.intake p)
  | .setReadCursor, p => .setReadCursor (.intake p)

/-- A powered bridge where request `d` of kind `k` is the next that block `b` takes (R179). -/
def AtOwner (s : State) (b : Block) (k : ReqKind) (d : Dispatch) : Prop :=
  s.powered = true ∧ s.agent.nextFor b = some d ∧ d.gather = none ∧ d.request.kind = some k

/-- The state once block `b` has taken its next request (R179): nothing else changes. -/
def State.took (s : State) (b : Block) : State := s.withAgent (s.agent.takeNext b)

/-- The answer to request `d` with one reply frame of a payload placed in `s` (R180). -/
def State.answers (s : State) (d : Dispatch) (payload : List Byte) : State :=
  answer d.request d.entry d.held [payload] s

/-- A powered bridge where a request waits for its intake at port `p`, carrying that port (R177). -/
def AtIntake (s : State) (p : Port) (r : Request) : Prop :=
  s.powered = true ∧ (s.port p).request = some r ∧ r.port = p

/-- The state once the request that waits at port `p` was taken, its requester's session timer started
again if it owns the session (R177, R184). -/
def State.received (s : State) (p : Port) (r : Request) : State :=
  (s.onPort p fun x => { x with request := none }).withAgent (s.agent.renewed r.source)

/-- A request that passes steps 1 to 5 of R177 as a new one: room for a reply, a known kind other than
IDENTIFY, an admitted requester, and no repeat. -/
def PassesAsNew (s : State) (p : Port) (r : Request) (k : ReqKind) : Prop :=
  AtIntake s p r ∧ 0 < (s.port p).free ∧ r.kind = some k ∧ k ≠ .identify
    ∧ s.agent.profile.admits k r.source = true ∧ s.agent.repeated r = none

/-- The state once a new request has passed step 5 of R177 and has its Retry Cache entry (R182): the
requester's own entry, a free one or the least recently used one, pending and now the most recently used. -/
def State.entered (s : State) (p : Port) (r : Request) : State :=
  let t := s.received p r
  t.withAgent { t.agent with
    cache := ⟨r.source, r.seq, s.agent.nextId, none⟩
      :: (t.agent.cache.filter fun e => e.node != r.source).take 3
    nextId := s.agent.nextId + 1 }

/-- One reply frame to a request that arrived at port `p`, placed at its intake and kept by no Retry Cache
entry (R177). -/
def State.repliesUnkept (s : State) (p : Port) (r : Request) (payload : List Byte) : State :=
  s.onPort p (·.place ⟨s.agent.buildReply r payload, 0⟩)

/-- The course of an accepted CAPTURE-ARM at a stopped or idle capture (R122, R118): the counts, the limit
and the reason are set, the START record is written, the ARM notice is sent, and a FILL ring that this fills
is FULL at once. -/
def ArmedWith (limit : Nat) (s t : State) : Prop :=
  ∃ w : Capture,
    RecordWritten { s.capture with missed := 0, limitCount := 0, limit := limit, stopReason := .none,
                                   state := .armed } (stampNow s) (.start s.capture.mode limit) w ∧
    let u := s.withTrigger { s.trigger with notices := s.trigger.notices ++ [.arm] }
    (w.mode = .fill ∧ w.unread = 1022 → t = (u.withCapture { w with state := .full }).alerted 0b0000001#7) ∧
    (w.mode = .wrap ∨ w.unread < 1022 → t = u.withCapture w)

/-- A part of gathering `g` given by block `b` in state `u` (R179, R187, R188): the gathering goes on while
other blocks owe a part; the last part has the reply placed, `replies` being what it carries. -/
def PartGiven (g : Gather) (b : Block) (bytes : List Byte) (replies : Gather → List (List Byte))
    (u t : State) : Prop :=
  let g' : Gather := { g with waiting := g.waiting.erase b, got := g.got ++ [(b, bytes)] }
  (g.waiting.erase b ≠ [] → t = u.withAgent { u.agent with
    gathers := u.agent.gathers.map fun x => if x.id = g.id then g' else x }) ∧
  (g.waiting.erase b = [] → t = answer g.request g.entry g.held (replies g')
    (u.withAgent { u.agent with gathers := u.agent.gathers.filter fun x => x.id ≠ g.id }))

/-- A powered bridge where the next thing that block `b` takes is its part of gathering `g` (R179). -/
def AtPart (s : State) (b : Block) (g : Gather) : Prop :=
  s.powered = true ∧ (∃ d, s.agent.nextFor b = some d ∧ d.gather = some g.id) ∧
    s.agent.gather g.id = some g

end Sys2Proof.Machine
end

