-- ==== Sys2Proof/Certificates/Slice0/Obligations.lean ====
section
/-! DEFINITION. The statements for the provers: what the numbered rules of the spec say the commands do,
chapter by chapter, and the invariants that every step keeps. A statement's docstring names the rules it
speaks of. -/

open Sys2Proof Sys2Proof.Machine

/-! ### Frames, links and Link Time (chapter 1) -/

/-- R6, 11.1: the receiver accepts a run exactly when it is the header, payload and check bytes of a frame
with a payload of at most 64 bytes, a source of at most 126 and the right check; the fields it reads are that
frame's. That a destination byte above 127 is accepted is the model's reading of R6 (log entry 17). -/
def Obligations.AcceptedRunsAreExactlyFrames : Prop :=
  ∀ (run : List Byte) (f : Frame),
    judgeRun run = .good f ↔
      f.bytes = run ∧ f.payload.length ≤ 64 ∧ f.src.toNat ≤ 126 ∧ f.check = crc16 (f.header ++ f.payload)

/-- R5, R6, R9: a run that fails a test at a port that takes frames changes one receive counter of that port,
and nothing else but the line condition that ends it. That the idle symbol that ends the run leaves the line
idle is the model's reading (log entry 6). That data which follows silence or an invalid symbol with no idle
between begins a run is the model's choice (log entry 31). -/
def Obligations.DiscardedRunCountsOneError : Prop :=
  ∀ (s : State) (p : Port) (run : List Byte), s.powered = true → (s.port p).link = .up →
    (s.port p).awaitIdle = false → run ≠ [] →
    let n := run.length
    let len := (run.getD 4 0).toNat
    let checkRight := crc16 (run.take (n - 2)) = BitVec.ofNat 16 (numberOf (run.drop (n - 2)))
    let format := s.onPort p fun x =>
      { x with line := .idle, measure := none, rxFormatErr := bump x.rxFormatErr }
    (n < 7 ∨ 71 < n → exec (.frameArrival p run) s = .next format) ∧
    (7 ≤ n → n ≤ 71 → ¬ checkRight →
      exec (.frameArrival p run) s = .next (s.onPort p fun x =>
        { x with line := .idle, measure := none, rxCheckErr := bump x.rxCheckErr })) ∧
    (7 ≤ n → n ≤ 71 → checkRight →
      (64 < len ∨ n ≠ 7 + len ∨ (run.getD 2 0).toNat = 0 ∨ 5 < (run.getD 2 0).toNat
        ∨ 126 < (run.getD 1 0).toNat) →
      exec (.frameArrival p run) s = .next format)

/-- R6, R7, R15: the bytes of a well-formed frame at a port that takes frames and has none waiting are
accepted: RX-GOOD counts, the frame waits for its lookup with the arrival stamp, and a SYNC frame of six
payload bytes or more from the time master, or from any node where none is named, sets the time. That the
stamp is taken before a SYNC sets the time (log entry 7), that the time set starts a whole microsecond (log
entry 4) and that the line is idle after the run (log entry 6) are the model's choices. That data which
follows silence or an invalid symbol with no idle between begins a run is the model's choice (log entry 31). -/
def Obligations.FrameAcceptedWithStamp : Prop :=
  ∀ (s : State) (p : Port) (f : Frame), s.powered = true → (s.port p).link = .up →
    (s.port p).awaitIdle = false → (s.port p).accepted = none → f.payload.length ≤ 64 →
    f.src.toNat ≤ 126 → f.check = crc16 (f.header ++ f.payload) →
    exec (.frameArrival p f.bytes) s = .next
      ((s.onPort p fun x =>
        { x with line := .idle, measure := none, rxGood := bump x.rxGood,
                 accepted := some ⟨f, s.time.linkTime, s.time.synced⟩ }).withTime
        (if f.kind = .sync ∧ 6 ≤ f.payload.length ∧ (∀ m, s.time.timeMaster = some m → f.src = m) then
          { s.time with linkTime := BitVec.ofNat 48 (numberOf (f.payload.take 6)), sub := 0,
                        synced := true, lossTimer := some 50000000 }
        else s.time))

/-- R5, R8, R11: a run, complete or broken off, at a LINK-DOWN port, or while the receiver waits for an idle
symbol, changes no counter; a run broken off at a port that takes frames is counted RX-FORMAT-ERR once, and
the receiver then waits for an idle symbol. A LINK-DOWN port begins to measure the idle that ends a run; a
LINK-UP port begins to measure the silence that breaks one off. What the line condition is after the run is
the model's reading (log entry 6). That data which follows silence or an invalid symbol with no idle between
begins a run is the model's choice (log entry 31). -/
def Obligations.BrokenOrIgnoredRunCounting : Prop :=
  ∀ (s : State) (p : Port) (run : List Byte) (how : RunBreak), s.powered = true →
    let listens := (s.port p).link = .up ∧ (s.port p).awaitIdle = false
    let c : LineCond := match how with | .invalid => .invalid | .silence => .silence
    let quiet : Option Nat := if (s.port p).link = .up ∧ how = .silence then some 1250 else none
    (run ≠ [] → ¬ listens →
      exec (.frameArrival p run) s = .next (s.onPort p fun x =>
        { x with line := .idle, awaitIdle := false,
                 measure := if x.link = .down then some 5000 else none })) ∧
    (listens → exec (.runBrokenOff p how) s = .next (s.onPort p fun x =>
      { x with rxFormatErr := bump x.rxFormatErr, awaitIdle := true, line := c, measure := quiet })) ∧
    (¬ listens →
      exec (.runBrokenOff p how) s = .next (s.onPort p fun x => { x with line := c, measure := quiet }))

/-- 1.6, R10, R11: a new line condition outside any run restarts the link measurement of its port: valid idle
in LINK-DOWN, silence in LINK-UP; an idle symbol ends the wait after a broken-off run (R8). Where a run is
being taken, invalid symbols and silence break it off. The end of a run by an idle symbol is FRAME_ARRIVAL and
no change of the line condition (log entry 6). That data which follows silence or an invalid symbol with no
idle between begins a run is the model's choice (log entry 31). -/
def Obligations.LineConditionDrivesMeasurement : Prop :=
  ∀ (s : State) (p : Port) (c : LineCond), s.powered = true → (s.port p).line ≠ c →
    let m : Option Nat :=
      match (s.port p).link, c with
      | .down, .idle => some 5000
      | .up, .silence => some 1250
      | _, _ => none
    ((s.port p).line ≠ .data ∨ (s.port p).link = .down ∨ (s.port p).awaitIdle = true →
      exec (.lineConditionChange p c) s = .next (s.onPort p fun x =>
        { x with line := c, measure := m, awaitIdle := if c = .idle then false else x.awaitIdle })) ∧
    ((s.port p).line = .data → (s.port p).link = .up → (s.port p).awaitIdle = false → c ≠ .idle →
      exec (.lineConditionChange p c) s = .next (s.onPort p fun x =>
        { x with line := c, measure := m, awaitIdle := true, rxFormatErr := bump x.rxFormatErr }))

/-- R10, R11, R16, R23, R28, R33, R34: the expiry of the link measurements and of the sync-loss timer, with
the time left of it passed. A port whose valid idle has lasted goes LINK-UP and, its queues being empty,
starts nothing. One whose silence has lasted goes LINK-DOWN: the frame in transmission and both queues are
given up and counted by source, the passover count is 0, and the map entries that name the port become
UNKNOWN. At the expiry of the sync-loss timer the synced flag is cleared, the timer stops and SYNC-LOST is
raised. Nothing else changes. Timed events let the time left on their timer pass first (the model's choice,
log entry 3). An alert condition joins the pending set at the event that raises it (the model's reading, log
entry 8). -/
def Obligations.LinkAndSyncTimersExpire : Prop :=
  ∀ (s : State) (n : Nat), s.powered = true →
    (∀ p, (s.port p).link = .down → (s.port p).measure = some n → EgressOk (s.port p) →
      exec (.linkUp p) s = .next ((elapse n s).onPort p fun x =>
        { x with link := .up, awaitIdle := false, measure := none })) ∧
    (∀ p, (s.port p).link = .up → (s.port p).measure = some n →
      Cells.Wf Side.unknown s.classifier.nodeMap →
      ∃ map : Cells Side,
        (∀ node, Cells.read Side.unknown map node
          = if Cells.read Side.unknown s.classifier.nodeMap node = sideOf p then .unknown
            else Cells.read Side.unknown s.classifier.nodeMap node) ∧
        exec (.linkDown p) s = .next (((elapse n s).onPort p fun x =>
          { x with link := .down, awaitIdle := false, measure := none, transit := [], reply := [],
                   sending := none, passover := 0,
                   transitDropDown := bumpBy x.transitDropDown (x.transit.length +
                     match x.sending with | some y => if y.fromReply then 0 else 1 | none => 0),
                   replyLost := bumpBy x.replyLost (x.reply.length +
                     match x.sending with | some y => if y.fromReply then 1 else 0 | none => 0) }
          ).withClassifier { s.classifier with nodeMap := map })) ∧
    (s.time.lossTimer = some n →
      exec .syncLossExpiry s = .next
        (((elapse n s).withTime { (elapse n s).time with synced := false, lossTimer := none }).withAgent
          { (elapse n s).agent with alerts :=
            { (elapse n s).agent.alerts with pending := s.agent.alerts.pending ||| 0b0100000#7 } }))

/-- R14, R31, R154, R184, R191: n bit times add their whole microseconds to Link Time, at 25 bit times to the
microsecond, and shorten every running timer; no queue, counter, table or flag changes. The unit of one bit
time and the timers that stand at 0 until their event is taken are the model's choices (log entry 3). -/
def Obligations.TimePassesForTimersOnly : Prop :=
  ∀ (s : State) (n : Nat),
    let t := elapse n s
    25 * t.time.linkTime.toNat + t.time.sub
        = (25 * s.time.linkTime.toNat + s.time.sub + n) % (25 * 2 ^ 48) ∧
      t.time.sub < 25 ∧ t.time.synced = s.time.synced ∧ t.time.timeMaster = s.time.timeMaster ∧
      t.time.lossTimer = s.time.lossTimer.map (· - n) ∧
      (∀ p, t.port p = { s.port p with
        measure := (s.port p).measure.map (· - n)
        sending := (s.port p).sending.map fun y => { y with left := y.left - n } }) ∧
      t.store = { s.store with engine := s.store.engine.map fun o => { o with left := o.left - n } } ∧
      t.agent = { s.agent with
        session := s.agent.session.map fun x => { x with left := x.left - n }
        alerts := { s.agent.alerts with ackTimer := s.agent.alerts.ackTimer.map (· - n) } } ∧
      t.classifier = s.classifier ∧ t.resolver = s.resolver ∧ t.trigger = s.trigger ∧
      t.capture = s.capture ∧ t.powered = s.powered ∧ t.strap = s.strap ∧ t.draws = s.draws ∧
      t.pending = s.pending

/-! ### Transit and egress (chapter 2) -/

/-- R28, R29, R31: at transmission completion TX-FRAMES counts and the Arbiter chooses by its table: a transit
frame before a waiting reply while the passover count is below 3, the reply after it; the frame chosen leaves
its queue and is sent, 8 bit times a byte and 16 for the gap. Timed events let the time left on their timer
pass first (the model's choice, log entry 3). -/
def Obligations.CompletionChoosesNextFrame : Prop :=
  ∀ (s : State) (p : Port) (y : Sending), s.powered = true → (s.port p).sending = some y →
    (s.port p).link = .up →
    let x : PortState :=
      { s.port p with measure := (s.port p).measure.map (· - y.left), sending := none,
                      txFrames := bump (s.port p).txFrames }
    exec (.txComplete p) s = .next ((elapse y.left s).withPort p
      (match x.transit, x.reply with
      | [], [] => x
      | f :: fs, [] => { x with transit := fs, sending := some ⟨f, false, 8 * f.bytes.length + 16⟩ }
      | [], r :: rs =>
        { x with reply := rs, passover := 0, sending := some ⟨r.frame, true, 8 * r.frame.bytes.length + 16⟩ }
      | f :: fs, r :: rs =>
        if x.passover < 3 then
          { x with transit := fs, passover := x.passover + 1,
                   sending := some ⟨f, false, 8 * f.bytes.length + 16⟩ }
        else
          { x with reply := rs, passover := 0,
                   sending := some ⟨r.frame, true, 8 * r.frame.bytes.length + 16⟩ }))

/-- R25, R27, R28: a frame handed to a Transit Queue, and a frame placed on a Reply Queue, at a port in a
legal state: dropped and counted while LINK-DOWN; dropped and counted where the Transit Queue holds 8; sent
at once by an idle transmitter; at the tail of its queue otherwise. -/
def Obligations.HandedFramesJoinOrDrop : Prop :=
  ∀ (x : PortState) (f : Frame) (r : Reply), EgressOk x →
    (x.link = .down →
      x.handTransit f = { x with transitDropDown := bump x.transitDropDown } ∧
      x.place r = { x with replyLost := bump x.replyLost }) ∧
    (x.link = .up → x.transit.length = 8 →
      x.handTransit f = { x with transitDropFull := bump x.transitDropFull }) ∧
    (x.link = .up → x.transit.length < 8 → x.sending ≠ none →
      x.handTransit f = { x with transit := x.transit ++ [f] }) ∧
    (x.link = .up → x.sending ≠ none → x.place r = { x with reply := x.reply ++ [r] }) ∧
    (x.link = .up → x.sending = none →
      x.handTransit f = { x with sending := some ⟨f, false, 8 * f.bytes.length + 16⟩ } ∧
      x.place r = { x with passover := 0, sending := some ⟨r.frame, true, 8 * r.frame.bytes.length + 16⟩ })

/-! ### Tuning Memory, windows and resolution (chapter 3) -/

/-- R41, R42: a logical page resolves to the tuning page of the lowest-numbered enabled window over it,
whatever the store does; with no such window to the store page when VALID and to a blank page when not, and
it is unavailable while an operation other than a lock is in flight on it. -/
def Obligations.ResolutionPrefersLowestWindow : Prop :=
  ∀ (s : State) (p : Nat),
    let covering := fun w => (s.resolver.window w).enabled = true ∧ (s.resolver.window w).target = p
    (∀ w, w ≤ 3 → covering w → (∀ v, v < w → ¬ covering v) →
      pageContent s p = some fun i => s.resolver.word (s.resolver.window w).page i) ∧
    ((∀ w, w ≤ 3 → ¬ covering w) →
      ((∃ o, s.store.engine = some o ∧ o.page = p ∧ o.kind ≠ .lock) → pageContent s p = none) ∧
      ((∀ o, s.store.engine = some o → o.page = p → o.kind = .lock) →
        (s.store.state p = .valid → pageContent s p = some fun i => s.store.word p i) ∧
        (s.store.state p ≠ .valid → pageContent s p = some fun _ => 0)))

/-- R47: TUNE-WRITE at the Resolver. The page number, the count and the end of the range are checked, then
the pin; a request that passes replaces its words, the first at the offset, and is answered OK. A refusal
changes nothing but the answer. -/
def Obligations.TuneWriteReplacesWords : Prop :=
  ∀ (s : State) (d : Dispatch), AtOwner s .resolver .tuneWrite d → Cells.Wf 0 s.resolver.tuning →
    d.request.payload.length = 4 + 2 * d.request.field 3 →
    let t := d.request.field 1
    let o := d.request.field 2
    let n := d.request.field 3
    let inRange := t ≤ 3 ∧ 1 ≤ n ∧ n ≤ 28 ∧ o + n ≤ 256
    (¬ inRange → exec (.tuneWrite .owner) s = .next ((s.took .resolver).answers d [0x10, 0x05])) ∧
    (inRange → s.resolver.pinned t = true →
      exec (.tuneWrite .owner) s = .next ((s.took .resolver).answers d [0x10, 0x11])) ∧
    (inRange → s.resolver.pinned t = false →
      ∃ x : Resolver, x.windows = s.resolver.windows ∧ x.pins = s.resolver.pins ∧
        (∀ u i, i < 256 → x.word u i
          = if u = t ∧ o ≤ i ∧ i < o + n then BitVec.ofNat 16 (d.request.field2 (4 + 2 * (i - o)))
            else s.resolver.word u i) ∧
        exec (.tuneWrite .owner) s = .next (((s.took .resolver).withResolver x).answers d [0x10, 0x00]))

/-- R49, R53: TUNE-READ and PAGE-READ at the Resolver change nothing but the answer. Out of range they are
refused RANGE, and a PAGE-READ of the page in flight is refused BUSY; otherwise they carry the words asked
for, which of a store page that is not VALID are zeros, with the pin mark or with the page state and lock
flag. The page byte follows 11.4. -/
def Obligations.PageWordsReadAsTheyStand : Prop :=
  ∀ (s : State) (d : Dispatch),
    let p := d.request.field 1
    let o := d.request.field 2
    let n := d.request.field 3
    let inRange := fun pages => p ≤ pages ∧ 1 ≤ n ∧ n ≤ 28 ∧ o + n ≤ 256
    (AtOwner s .resolver .tuneRead d →
      (¬ inRange 3 → exec (.tuneRead .owner) s = .next ((s.took .resolver).answers d [0x11, 0x05])) ∧
      (inRange 3 → exec (.tuneRead .owner) s = .next ((s.took .resolver).answers d
        ([0x11, 0x00, byteOf p, if s.resolver.pinned p then 1 else 0, byteOf o, byteOf n]
          ++ (List.range n).flatMap fun i => wordBytes (s.resolver.word p (o + i)))))) ∧
    (AtOwner s .resolver .pageRead d →
      let inFlight := ∃ op, s.store.engine = some op ∧ op.page = p
      (¬ inRange 10 → exec (.pageRead .owner) s = .next ((s.took .resolver).answers d [0x14, 0x05])) ∧
      (inRange 10 → inFlight →
        exec (.pageRead .owner) s = .next ((s.took .resolver).answers d [0x14, 0x0B])) ∧
      (inRange 10 → ¬ inFlight →
        exec (.pageRead .owner) s = .next ((s.took .resolver).answers d
          ([0x14, 0x00, byteOf p,
              byteOf ((match s.store.state p with | .erased => 0 | .valid => 1 | .invalid => 2)
                + if s.store.isLocked p then 128 else 0),
              byteOf o, byteOf n]
            ++ (List.range n).flatMap fun i =>
                wordBytes (if s.store.state p = .valid then s.store.word p (o + i) else 0)))))

/-- R50, R196: WINDOW-SET at the Resolver takes all three fields of a window, whatever the store does and
whatever is pinned; a window above 3, a target outside 1..10 or a tuning page above 3 is refused RANGE. -/
def Obligations.WindowSetTakesAllFields : Prop :=
  ∀ (s : State) (d : Dispatch), AtOwner s .resolver .windowSet d →
    Cells.Wf Window.atPor s.resolver.windows →
    let w := d.request.field 1
    let inRange := w ≤ 3 ∧ 1 ≤ d.request.field 3 ∧ d.request.field 3 ≤ 10 ∧ d.request.field 4 ≤ 3
    (¬ inRange → exec (.windowSet .owner) s = .next ((s.took .resolver).answers d [0x12, 0x05])) ∧
    (inRange →
      ∃ x : Resolver, x.tuning = s.resolver.tuning ∧ x.pins = s.resolver.pins ∧
        (∀ v, x.window v
          = if v = w then ⟨d.request.field 2 % 2 == 1, d.request.field 3, d.request.field 4⟩
            else s.resolver.window v) ∧
        exec (.windowSet .owner) s = .next (((s.took .resolver).withResolver x).answers d [0x12, 0x00]))

/-- R52: WINDOW-READ at the Resolver carries the window's three fields, whether it is in force, and the pin
mark of the tuning page it names; a number above 3 is refused RANGE. -/
def Obligations.WindowReadShowsWindow : Prop :=
  ∀ (s : State) (d : Dispatch), AtOwner s .resolver .windowRead d →
    let w := d.request.field 1
    let x := s.resolver.window w
    let inForce := x.enabled = true ∧
      ∀ v, v < w → ¬ ((s.resolver.window v).enabled = true ∧ (s.resolver.window v).target = x.target)
    (3 < w → exec (.windowRead .owner) s = .next ((s.took .resolver).answers d [0x13, 0x05])) ∧
    (w ≤ 3 → ∃ b : Bool, (b = true ↔ inForce) ∧
      exec (.windowRead .owner) s = .next ((s.took .resolver).answers d
        [0x13, 0x00, byteOf w, if x.enabled then 1 else 0, byteOf x.target, byteOf x.page,
          if b then 1 else 0, if s.resolver.pinned x.page then 1 else 0]))

/-! ### Lookup and classification (chapters 2 and 4) -/

/-- R19, R20, R22, R70: the lookup of a frame that needs no table, with nothing to be taken before it. SYNC,
MGMT-RSP and ALERT frames are forwarded; a MGMT-REQ to the own address is handed to the Agent, one to 127 that
carries IDENTIFY is handed and forwarded, any other is forwarded; a DATA frame to the own address is counted
TO-SELF. The source's map entry names the arrival port in every case. Nothing waits before the lookup here;
what does is taken first (log entry 13). -/
def Obligations.LookupFatesByKind : Prop :=
  ∀ (s : State) (p : Port) (f : Frame) (st : Stamp), s.powered = true →
    (s.port p).accepted = some ⟨f, st⟩ → (s.port p).request = none → s.trigger.passage = none →
    let own := s.agent.profile.address
    let side : Side := match p with | .U => .up | .D => .down
    let heard :=
      { s.classifier with nodeMap := Cells.write Side.unknown s.classifier.nodeMap f.src.toNat side }
    let taken := s.onPort p fun x => { x with accepted := none }
    let handed := s.onPort p fun x =>
      { x with accepted := none, request := some ⟨p, f.src, f.seq, f.payload⟩ }
    let forwarded := fun t : State => t.onPort (match p with | .U => .D | .D => .U) (·.handTransit f)
    let identify := f.dst = 127 ∧ f.payload.head? = some 0x01
    (f.kind = .sync ∨ f.kind = .mgmtRsp ∨ f.kind = .alert →
      exec (.lookup p) s = .next (forwarded (taken.withClassifier heard))) ∧
    (f.kind = .mgmtReq → f.dst = own → exec (.lookup p) s = .next (handed.withClassifier heard)) ∧
    (f.kind = .mgmtReq → f.dst ≠ own → identify →
      exec (.lookup p) s = .next (forwarded (handed.withClassifier heard))) ∧
    (f.kind = .mgmtReq → f.dst ≠ own → ¬ identify →
      exec (.lookup p) s = .next (forwarded (taken.withClassifier heard))) ∧
    (f.kind = .data → f.dst = own →
      exec (.lookup p) s = .next (taken.withClassifier { heard with toSelf := bump heard.toSelf }))

/-- R21, R56, R61, R62, R70, R71: the lookup of a DATA frame for another node that takes no class, with
nothing to be taken before it. With page 1 unavailable it is UNRESOLVED and forwarded; with no entry that
matches it is UNMATCHED, and forwarded or counted HOLD-DISCARD as the profile says. Nothing waits before the
lookup here; what does is taken first (log entry 13). -/
def Obligations.LookupWithoutClass : Prop :=
  ∀ (s : State) (p : Port) (f : Frame) (st : Stamp), s.powered = true →
    (s.port p).accepted = some ⟨f, st⟩ → (s.port p).request = none → s.trigger.passage = none →
    f.kind = .data → f.dst ≠ s.agent.profile.address →
    let side : Side := match p with | .U => .up | .D => .down
    let heard :=
      { s.classifier with nodeMap := Cells.write Side.unknown s.classifier.nodeMap f.src.toNat side }
    let taken := s.onPort p fun x => { x with accepted := none }
    let forwarded := fun t : State => t.onPort (match p with | .U => .D | .D => .U) (·.handTransit f)
    (pageContent s 1 = none →
      exec (.lookup p) s
        = .next (forwarded (taken.withClassifier { heard with unresolved := bump heard.unresolved }))) ∧
    (∀ page, pageContent s 1 = some page → matchSearch page p f = none →
      (s.agent.profile.unmatched = .pass →
        exec (.lookup p) s
          = .next (forwarded (taken.withClassifier { heard with unmatched := bump heard.unmatched }))) ∧
      (s.agent.profile.unmatched = .hold →
        exec (.lookup p) s = .next (taken.withClassifier
          { heard with unmatched := bump heard.unmatched, holdDiscard := bump heard.holdDiscard })))

/-- R21, R61, R63 to R69, R71: the lookup of a DATA frame that an entry matches, with nothing to be taken
before it. The class counts; the source's last sequence is taken where page 10 resolves; PASS and PASS-RECORD
forward, HOLD counts HOLD-DISCARD; a recording action with a page unavailable counts UNRESOLVED, and
otherwise, unless the source is excluded or the Trigger Unit FROZEN, hands over a summary with the gap flag
formed from the old sequence, the value list and the four conditions. Nothing waits before the lookup here;
what does is taken first (log entry 13). -/
def Obligations.LookupOfMatchedFrame : Prop :=
  ∀ (s : State) (p : Port) (f : Frame) (st : Stamp) (page : Nat → Word) (e : MatchEntry),
    s.powered = true → (s.port p).accepted = some ⟨f, st⟩ → (s.port p).request = none →
    s.trigger.passage = none → f.kind = .data → f.dst ≠ s.agent.profile.address →
    pageContent s 1 = some page → matchSearch page p f = some e →
    let nodes := pageContent s 10
    let map := pageContent s (2 + e.cls / 8)
    let set := pageContent s (6 + e.cls / 8)
    let c := s.classifier
    let records := e.action = .passRecord ∨ e.action = .recordOnly
    let side : Side := match p with | .U => .up | .D => .down
    let lost10 := nodes.isNone
    let missing := nodes = none ∨ map = none ∨ set = none
    let taken := s.onPort p fun x => { x with accepted := none }
    let passed := if e.action = .pass ∨ e.action = .passRecord then
      taken.onPort (match p with | .U => .D | .D => .U) (·.handTransit f) else taken
    ∃ (u : Count) (t : Trigger),
      (u = if records ∧ missing then bump c.unresolved else c.unresolved) ∧
      (¬ records ∨ missing → t = s.trigger) ∧
      (∀ n m k, nodes = some n → map = some m → set = some k → records →
        let silent := (n (2 * f.src.toNat)).getLsbD 0 = true ∨ s.trigger.state = .frozen
        let y : Summary :=
          { cls := e.cls, source := f.src, seq := f.seq,
            gap := gapFlag ((n (2 * f.src.toNat)).getLsbD 1) (c.lastSeq f.src) f.seq,
            stamp := st, values := valueList m e.cls f.payload,
            conds := [0, 1, 2, 3].map (readCond k e.cls) }
        (silent → t = s.trigger) ∧ (¬ silent → t = { s.trigger with passage := some y })) ∧
      exec (.lookup p) s = .next ((passed.withTrigger t).withClassifier
        { c with
          nodeMap := Cells.write Side.unknown c.nodeMap f.src.toNat side
          classCount := Cells.write 0 c.classCount e.cls (bump (Cells.read 0 c.classCount e.cls))
          nodeState := if lost10 then c.nodeState else (c.tookSeq f.src f.seq).nodeState
          holdDiscard := if e.action = .hold then bump c.holdDiscard else c.holdDiscard
          unresolved := u })

/-- R57 to R60, R66: the search takes the lowest-numbered enabled, well-formed entry of the 32 whose
direction, source, destination, minimum length and key tests all hold; a frame whose payload ends before the
key word fails the key test. An entry that is disabled or holds an encoding or a value that 11.6 does not list
takes no part; the fields of any other stand at the words and bits that 11.6 gives them. The gap flag is set
exactly when seq-check is set, a last sequence is held, and the frame's is not the next modulo 256. -/
def Obligations.FirstMatchingEntryWins : Prop :=
  (∀ (page : Nat → Word) (p : Port) (f : Frame) (e : MatchEntry),
    let key := fun x : MatchEntry => x.keyPresent = false ∨
      (x.keyOffset + 2 ≤ f.payload.length ∧
        BitVec.ofNat 16 ((f.payload.getD x.keyOffset 0).toNat * 256
          + (f.payload.getD (x.keyOffset + 1) 0).toNat) &&& x.keyMask = x.keyValue &&& x.keyMask)
    let fits := fun x : MatchEntry =>
      (x.direction = .downstream → p = .U) ∧ (x.direction = .upstream → p = .D) ∧
        (x.source = 255 ∨ x.source = f.src.toNat) ∧ (x.destination = 255 ∨ x.destination = f.dst.toNat) ∧
        x.minLength ≤ f.payload.length ∧ key x
    matchSearch page p f = some e ↔
      ∃ i, i < 32 ∧ matchEntry page i = some e ∧ fits e ∧
        ∀ j, j < i → ∀ x, matchEntry page j = some x → ¬ fits x) ∧
  (∀ (page : Nat → Word) (i : Nat),
    let w := fun k => (page (8 * i + k)).toNat
    matchEntry page i = none ↔
      w 0 < 32768 ∨ w 0 / 4096 % 4 = 3 ∨ 3 < w 0 / 256 % 8 ∨ 31 < w 0 % 256 ∨
        (126 < w 1 / 256 ∧ w 1 / 256 ≠ 255) ∨ (127 < w 1 % 256 ∧ w 1 % 256 ≠ 255) ∨ 64 < w 2 / 256 ∨
        (w 0 / 16384 % 2 = 1 ∧ 62 < w 2 % 256)) ∧
  (∀ (page : Nat → Word) (i : Nat) (e : MatchEntry), matchEntry page i = some e →
    let w := fun k => (page (8 * i + k)).toNat
    e = { direction := match w 0 / 4096 % 4 with | 0 => .either | 1 => .downstream | _ => .upstream
          action := match w 0 / 256 % 8 with
            | 0 => .pass | 1 => .passRecord | 2 => .hold | _ => .recordOnly
          cls := w 0 % 256
          source := w 1 / 256
          destination := w 1 % 256
          minLength := w 2 / 256
          keyPresent := decide (w 0 / 16384 % 2 = 1)
          keyOffset := w 2 % 256
          keyValue := page (8 * i + 3)
          keyMask := page (8 * i + 4) }) ∧
  (∀ (check : Bool) (last : Option Byte) (seq : Byte),
    gapFlag check last seq = true ↔
      check = true ∧ ∃ l, last = some l ∧ seq.toNat ≠ (l.toNat + 1) % 256)

/-- R7, R69, R177: what waits before a lookup is taken before it: the intake of the request that waits at the
port, then the arrival of the summary in passage. A lookup that waits is taken before the next frame of its
port is accepted. That the model takes the waiting event itself, within the later command, is its choice (log
entry 13). -/
def Obligations.WaitingEventsTakenFirst : Prop :=
  ∀ (s : State) (p : Port), s.powered = true → (s.port p).accepted ≠ none →
    let t := summaryArrive (intake p s)
    ((t.port p).request = none ∧ t.trigger.passage = none ∧ (t.port p).accepted = (s.port p).accepted ∧
      exec (.lookup p) s = exec (.lookup p) t) ∧
    (∀ (f : Frame) (u : State), (s.port p).link = .up → (s.port p).awaitIdle = false →
      f.payload.length ≤ 64 → f.src.toNat ≤ 126 → f.check = crc16 (f.header ++ f.payload) →
      exec (.lookup p) s = .next u → exec (.frameArrival p f.bytes) s = exec (.frameArrival p f.bytes) u)

/-! ### Field extraction (chapter 5) -/

/-- R72 to R76, R78: the value list has one entry for each descriptor within the count, which is 0 when the
count word is above 8. An entry is present exactly when its offset is at most 63, its type code is 1 to 8 and
its field lies wholly inside the payload; its value is the number its bytes make, most significant first,
less two to the power of its bits when the type is signed and the top bit is set. -/
def Obligations.ValueListFromFieldMap : Prop :=
  ∀ (page : Nat → Word) (c : Nat) (payload : List Byte),
    let base := 32 * (c % 8)
    let count := if (page base).toNat ≤ 8 then (page base).toNat else 0
    (valueList page c payload).length = count ∧
      ∀ i, i < count →
        let offset := (page (base + 1 + i)).toNat / 256
        let code := (page (base + 1 + i)).toNat % 256
        let width := (code + 1) / 2
        let number := ((List.range width).map fun j =>
          (payload.getD (offset + j) 0).toNat * 256 ^ (width - 1 - j)).sum
        let present := offset ≤ 63 ∧ 1 ≤ code ∧ code ≤ 8 ∧ offset + width ≤ payload.length
        (¬ present → (valueList page c payload).getD i none = none) ∧
        (present → ∃ v : Value, (valueList page c payload).getD i none = some v ∧ v.type.code = code ∧
          v.val = if code % 2 = 0 ∧ 256 ^ width ≤ 2 * number then (number : Int) - 256 ^ width else number)

/-! ### The Trigger Unit (chapter 6) -/

/-- R93 to R98, R100, R103: what one condition does at an evaluation, by kind, with the value at its field
index and its entry of the Condition State Table: whether it fires, and its entry after. A condition is read
from the words of its class's block as 11.6 lays them out: the kind, any word not listed being NONE, the field
index, A in two's complement with its high word first, and B. -/
def Obligations.ConditionsJudgedByKind : Prop :=
  (∀ (page : Nat → Word) (cls i : Nat),
    let w := fun k => (page (32 * (cls % 8) + 8 * i + k)).toNat
    let a := w 2 * 65536 + w 3
    readCond page cls i =
      { kind := match w 0 with
          | 1 => .always | 2 => .every | 3 => .above | 4 => .below | 5 => .change | 6 => .first
          | 7 => .seqGap | _ => .none
        field := w 1
        a := if a < 2 ^ 31 then (a : Int) else (a : Int) - 2 ^ 32
        b := w 4 }) ∧
  ∀ (c : Cond) (x : Summary) (seen : Bool) (e : CondState),
    let judged := c.judge x seen e
    (c.kind = .none → judged = (false, e)) ∧
    (c.kind = .always → judged = (true, e)) ∧
    (c.kind = .first → judged = (!seen, e)) ∧
    (c.kind = .seqGap → judged = (x.gap, e)) ∧
    (c.kind = .every → c.a < 1 ∨ 65535 < c.a → judged = (false, e)) ∧
    (c.kind = .every → 1 ≤ c.a → c.a ≤ 65535 →
      judged = if c.a ≤ e.counter + 1 then (true, { e with counter := 0 })
        else (false, { e with counter := e.counter + 1 })) ∧
    (c.kind = .above ∨ c.kind = .below ∨ c.kind = .change → x.values.getD c.field none = none →
      judged = (false, e)) ∧
    (∀ v, x.values.getD c.field none = some v →
      (c.kind = .above →
        judged = if e.armed then (decide (c.a < v.val), { e with armed := decide (v.val ≤ c.a) })
          else (false, { e with armed := decide (v.val ≤ c.a - c.b) })) ∧
      (c.kind = .below →
        judged = if e.armed then (decide (v.val < c.a), { e with armed := decide (c.a ≤ v.val) })
          else (false, { e with armed := decide (c.a + c.b ≤ v.val) })) ∧
      (c.kind = .change → c.a < 0 → judged = (false, e)) ∧
      (c.kind = .change → 0 ≤ c.a → e.reference = none →
        judged = (true, { e with reference := some v.val })) ∧
      (∀ r, c.kind = .change → 0 ≤ c.a → e.reference = some r →
        judged = if c.a ≤ v.val - r ∨ c.a ≤ r - v.val then (true, { e with reference := some v.val })
          else (false, e)))

/-- R90, R102, R104, R106, R107: an evaluation is taken when the unit is RUNNING, a summary waits and the
hand-off is empty. It takes the head, judges its four conditions each against the state as it stood, makes
their state changes together, adds the source once when a FIRST condition fired, and builds one record
request, its cause the lowest index fired, when any fired. That the command changes nothing where no
evaluation can be taken (FROZEN, an empty queue, a full hand-off) is the model's choice (log entry 1). -/
def Obligations.EvaluationJudgesHeadSummary : Prop :=
  ∀ (s : State), s.powered = true →
    (s.trigger.state = .frozen ∨ s.trigger.queue = [] ∨ s.trigger.handOff ≠ none →
      exec .evaluation s = .next s) ∧
    (∀ (x : Summary) (rest : List Summary), s.trigger.state = .running → s.trigger.queue = x :: rest →
      s.trigger.handOff = none → Cells.Wf CondState.atArm s.trigger.conds →
      Cells.Wf false s.trigger.seen → x.source.toNat ≤ 126 →
      let entry := fun i => Cells.read CondState.atArm s.trigger.conds (4 * x.cls + i)
      let seen := Cells.read false s.trigger.seen (128 * x.cls + x.source.toNat)
      let judged := fun i => (x.conds.getD i ⟨.none, 0, 0, 0⟩).judge x seen (entry i)
      let fired := [0, 1, 2, 3].filter fun i => (judged i).1
      let first := ∃ i ∈ fired, (x.conds.getD i ⟨.none, 0, 0, 0⟩).kind = .first
      ∃ (conds : Cells CondState) (nodes : Cells Bool),
        (∀ c i, i < 4 → Cells.read CondState.atArm conds (4 * c + i)
          = if c = x.cls then (judged i).2 else Cells.read CondState.atArm s.trigger.conds (4 * c + i)) ∧
        (∀ c n, n < 128 → (Cells.read false nodes (128 * c + n) = true ↔
          Cells.read false s.trigger.seen (128 * c + n) = true ∨
            (first ∧ c = x.cls ∧ n = x.source.toNat))) ∧
        exec .evaluation s = .next (s.withTrigger
          { s.trigger with
            queue := rest
            conds := conds
            seen := nodes
            handOff := match fired with
              | [] => none
              | cause :: _ => some ⟨x.cls, cause, fired, x.source, x.seq, x.stamp, x.values⟩ }))

/-- R69, R85 to R88: the arrival of the summary in passage: it joins a RUNNING queue of fewer than 16, is
dropped with SUMMARY-OVERFLOW at 16, and is discarded while FROZEN. The oldest notice, when it is of the kind
commanded, is taken: ARM resets the condition state and the Seen-Node Sets, empties the queue and makes the
unit RUNNING; STOP and CLEAR make it FROZEN and empty the queue. -/
def Obligations.SummariesAndNoticesAtTrigger : Prop :=
  ∀ (s : State), s.powered = true →
    let t := s.trigger
    (∀ x, t.passage = some x →
      (t.state = .running → t.queue.length < 16 →
        exec .summaryArrival s = .next (s.withTrigger { t with passage := none, queue := t.queue ++ [x] })) ∧
      (t.state = .running → 16 ≤ t.queue.length →
        exec .summaryArrival s = .next (s.withTrigger { t with passage := none, overflow := bump t.overflow })) ∧
      (t.state = .frozen →
        exec .summaryArrival s = .next (s.withTrigger { t with passage := none }))) ∧
    (∀ rest, t.notices = .arm :: rest →
      exec .armNotice s = .next (s.withTrigger
        { t with notices := rest, conds := [], seen := [], queue := [], state := .running })) ∧
    (∀ rest, t.notices = .stop :: rest →
      exec .stopNotice s = .next (s.withTrigger { t with notices := rest, queue := [], state := .frozen })) ∧
    (∀ rest, t.notices = .clear :: rest →
      exec .clearNotice s = .next (s.withTrigger { t with notices := rest, queue := [], state := .frozen }))

/-! ### The Capture Ring (chapter 7) -/

/-- R91, R117 to R119, R121: the arrival of the record request in the hand-off, which becomes empty. IDLE and
STOPPED discard it, FULL counts it missed, ARMED writes its FRAME record and counts it; the write that leaves
1022 unread in FILL makes the capture FULL; the one that reaches the record limit stops the capture, with a
STOP record where there is room. An alert condition joins the pending set at the event that raises it (the
model's reading, log entry 8). -/
def Obligations.RecordRequestByCaptureState : Prop :=
  ∀ (s : State) (q : RecordRequest), s.powered = true → s.trigger.handOff = some q →
    CaptureOk s.capture → Cells.Wf none s.capture.ring →
    let c := s.capture
    let t := s.withTrigger { s.trigger with handOff := none }
    (c.state = .idle ∨ c.state = .stopped → exec .recordRequestArrival s = .next t) ∧
    (c.state = .full →
      exec .recordRequestArrival s = .next (t.withCapture { c with missed := bump c.missed })) ∧
    (c.state = .armed →
      ∃ w : Capture, RecordWritten c q.stamp (.frame q.cls q.cause q.fired q.source q.seq q.values) w ∧
        let counted := { w with limitCount := min (c.limitCount + 1) 65535 }
        let reached := c.limit ≠ 0 ∧ c.limitCount + 1 = c.limit
        let filled := c.mode = .fill ∧ w.unread = 1022
        let stopped := fun x : Capture =>
          ((t.withTrigger { t.trigger with notices := s.trigger.notices ++ [.stop] }
            ).withCapture { x with state := .stopped, stopReason := .limit }).alerted 0b0000010#7
        (¬ reached → ¬ filled → exec .recordRequestArrival s = .next (t.withCapture counted)) ∧
        (¬ reached → filled →
          exec .recordRequestArrival s
            = .next ((t.withCapture { counted with state := .full }).alerted 0b0000001#7)) ∧
        (reached → filled → exec .recordRequestArrival s = .next (stopped counted)) ∧
        (reached → ¬ filled →
          ∃ v : Capture, RecordWritten counted (stampNow s) (.stop .limit) v ∧
            exec .recordRequestArrival s = .next (stopped v)))

/-- R122: CAPTURE-ARM at the Capture Unit. ARMED and FULL refuse it STATE, a FILL ring with 1022 unread
refuses it FULL; otherwise the counts, the limit and the stop reason are set, the START record is written, the
ARM notice is sent, and a FILL ring that this fills is FULL at once. An alert condition joins the pending set
at the event that raises it (the model's reading, log entry 8). -/
def Obligations.CaptureArmWritesStart : Prop :=
  ∀ (s : State) (d : Dispatch), AtOwner s .capture .captureArm d → CaptureOk s.capture →
    Cells.Wf none s.capture.ring →
    let c := s.capture
    let limit := if d.request.payload.length = 3 then d.request.field2 1 else 0
    let stopped := c.state = .idle ∨ c.state = .stopped
    (¬ stopped → exec (.captureArm .owner) s = .next ((s.took .capture).answers d [0x30, 0x12])) ∧
    (stopped → c.mode = .fill → c.unread = 1022 →
      exec (.captureArm .owner) s = .next ((s.took .capture).answers d [0x30, 0x13])) ∧
    (stopped → c.mode = .wrap ∨ c.unread < 1022 →
      ∃ t, ArmedWith limit (s.took .capture) t ∧
        exec (.captureArm .owner) s = .next (t.answers d
          ([0x30, 0x00] ++ bytesOf 2 t.capture.wc ++ bytesOf 4 c.nextSerial.toNat)))

/-- R123: CAPTURE-STOP at the Capture Unit: refused STATE in IDLE and STOPPED; from ARMED a STOP record is
written and carried in the reply, from FULL none is; the state, the reason and the STOP notice follow. -/
def Obligations.CaptureStopWritesStop : Prop :=
  ∀ (s : State) (d : Dispatch), AtOwner s .capture .captureStop d → CaptureOk s.capture →
    Cells.Wf none s.capture.ring →
    let c := s.capture
    let t := (s.took .capture).withTrigger { s.trigger with notices := s.trigger.notices ++ [.stop] }
    let stopped := fun x : Capture => t.withCapture { x with state := .stopped, stopReason := .request }
    (c.state = .idle ∨ c.state = .stopped →
      exec (.captureStop .owner) s = .next ((s.took .capture).answers d [0x31, 0x12])) ∧
    (c.state = .full →
      exec (.captureStop .owner) s
        = .next ((stopped c).answers d ([0x31, 0x00] ++ bytesOf 2 0 ++ bytesOf 4 0))) ∧
    (c.state = .armed →
      ∃ w : Capture, RecordWritten c (stampNow s) (.stop .request) w ∧
        exec (.captureStop .owner) s = .next ((stopped w).answers d
          ([0x31, 0x00] ++ bytesOf 2 w.wc ++ bytesOf 4 c.nextSerial.toNat)))

/-- R124, R125: CAPTURE-CLEAR and CAPTURE-MODE at the Capture Unit. CLEAR is refused STATE in ARMED and FULL;
otherwise every slot is EMPTY, the cursors and counts are 0, the next serial is 1, the state is IDLE, the mode
is kept and the CLEAR notice is sent. MODE is refused RANGE for a value above 1, then STATE in ARMED and FULL;
otherwise it changes the mode and nothing else. -/
def Obligations.CaptureClearAndMode : Prop :=
  ∀ (s : State) (d : Dispatch),
    let c := s.capture
    let t := s.took .capture
    let running := c.state = .armed ∨ c.state = .full
    let mode := d.request.field 1
    (AtOwner s .capture .captureClear d →
      (running → exec (.captureClear .owner) s = .next (t.answers d [0x32, 0x12])) ∧
      (¬ running →
        exec (.captureClear .owner) s = .next (((t.withCapture
          { ring := [], wc := 0, rc := 0, unread := 0, nextSerial := 1, state := .idle, mode := c.mode,
            limit := 0, limitCount := 0, missed := 0, overwritten := 0, stopReason := .none }).withTrigger
          { s.trigger with notices := s.trigger.notices ++ [.clear] }).answers d [0x32, 0x00]))) ∧
    (AtOwner s .capture .captureMode d →
      (1 < mode → exec (.captureMode .owner) s = .next (t.answers d [0x33, 0x05])) ∧
      (mode ≤ 1 → running → exec (.captureMode .owner) s = .next (t.answers d [0x33, 0x12])) ∧
      (mode ≤ 1 → ¬ running →
        exec (.captureMode .owner) s = .next ((t.withCapture
          { c with mode := if mode = 0 then .wrap else .fill }).answers d [0x33, 0x00])))

/-- R126: CAPTURE-MARK at the Capture Unit: refused NOT-ARMED in IDLE and STOPPED and FULL in FULL; in ARMED
its record carries the requester and the text, counts toward no limit, and may fill the capture (R118). An
alert condition joins the pending set at the event that raises it (the model's reading, log entry 8). -/
def Obligations.CaptureMarkWritesMark : Prop :=
  ∀ (s : State) (d : Dispatch), AtOwner s .capture .captureMark d → CaptureOk s.capture →
    Cells.Wf none s.capture.ring →
    let c := s.capture
    let t := s.took .capture
    (c.state = .idle ∨ c.state = .stopped →
      exec (.captureMark .owner) s = .next (t.answers d [0x34, 0x14])) ∧
    (c.state = .full → exec (.captureMark .owner) s = .next (t.answers d [0x34, 0x13])) ∧
    (c.state = .armed →
      ∃ w : Capture,
        RecordWritten c (stampNow s) (.mark d.request.source (d.request.payload.drop 1)) w ∧
        let reply := [0x34, 0x00] ++ bytesOf 2 w.wc ++ bytesOf 4 c.nextSerial.toNat
        (c.mode = .fill ∧ w.unread = 1022 →
          exec (.captureMark .owner) s
            = .next (((t.withCapture { w with state := .full }).alerted 0b0000001#7).answers d reply)) ∧
        (c.mode = .wrap ∨ w.unread < 1022 →
          exec (.captureMark .owner) s = .next ((t.withCapture w).answers d reply)))

/-! ### Reading the capture (chapter 8) -/

/-- R134 to R137, R140: READ-NEXT and READ-BLOCK at the Capture Unit. A count outside 1..16 is refused RANGE;
with nothing unread one NO-NEW frame is sent; otherwise the records of the next k slots are delivered, k the
least of the count, the block limit, the unread count and the frames held, each frame with its slot, the
unread count and more flag after it, its place, and its record or EMPTY-SLOT; then the capture may resume. A
record is delivered in the layout of 11.3: the synced flag and the kind, the serial, the stamp, and the bytes of
its kind; whole numbers go most significant byte first, the values of a FRAME record in two's complement in the
width of their types, and an ABSENT entry has a type half of 0 and no bytes. -/
def Obligations.CursorReadsDeliverInOrder : Prop :=
  (∀ n x : Nat, bytesOf n x = (List.range n).map fun j => BitVec.ofNat 8 (x / 256 ^ (n - 1 - j))) ∧
  (∀ r : Record,
    let synced := if r.stamp.synced then 128 else 0
    let type : Value → Nat := fun v => match v.type with
      | .u8 => 1 | .s8 => 2 | .u16 => 3 | .s16 => 4 | .u24 => 5 | .s24 => 6 | .u32 => 7 | .s32 => 8
    let width := fun v => (type v + 1) / 2
    let shown : Option Value → List Byte := fun v => match v with
      | some v => bytesOf (width v) (v.val % 2 ^ (8 * width v)).toNat
      | none => []
    let whole := fun (kind : Nat) (rest : List Byte) =>
      [BitVec.ofNat 8 (kind + synced)] ++ bytesOf 4 r.serial.toNat ++ bytesOf 6 r.stamp.time.toNat ++ rest
    r.bytes = match r.body with
      | .start mode limit => whole 1 ([match mode with | .wrap => 0 | .fill => 1] ++ bytesOf 2 limit)
      | .stop reason => whole 2 [match reason with | .none => 0 | .request => 1 | .limit => 2 | .restart => 3]
      | .frame cls cause fired source seq values =>
        let half := fun i => match values.getD i none with | some v => type v | none => 0
        let bit := fun i => if i ∈ fired then 2 ^ i else 0
        whole 3 ([BitVec.ofNat 8 cls, BitVec.ofNat 8 (16 * cause + (bit 0 + bit 1 + bit 2 + bit 3)), source, seq,
            BitVec.ofNat 8 values.length]
          ++ ((List.range 4).map fun j => BitVec.ofNat 8 (16 * half (2 * j) + half (2 * j + 1)))
          ++ values.flatMap shown)
      | .mark requester text => whole 4 (requester :: text)
      | .gap missed => whole 5 (bytesOf 4 missed.toNat)) ∧
  ∀ (s : State) (d : Dispatch), Cells.Wf none s.capture.ring →
    let c := s.capture
    let frames := fun (code : Byte) (k : Nat) => (List.range k).map fun j =>
      let slot := nextSlot^[j + 1] c.rc
      let left := c.unread - (j + 1)
      let header := bytesOf 2 slot ++ bytesOf 2 (left + if 0 < left then 32768 else 0)
        ++ [byteOf (16 * j + (k - 1))] ++ bytesOf 4 c.overwritten.toNat
      match c.slot slot with
      | some r => [code, 0x00] ++ header ++ r.bytes
      | none => [code, 0x02] ++ header
    let noNew := fun code : Byte =>
      [code, 0x01] ++ bytesOf 2 c.rc ++ bytesOf 2 0 ++ [0x00] ++ bytesOf 4 c.overwritten.toNat
    let moved := fun k => (s.took .capture).withCapture
      { c with rc := nextSlot^[k] c.rc, unread := c.unread - k }
    (AtOwner s .capture .readNext d →
      (c.unread = 0 → exec (.readNext .owner) s = .next ((s.took .capture).answers d (noNew 0x38))) ∧
      (c.unread ≠ 0 → ∃ t, Resumed (moved 1) t ∧
        exec (.readNext .owner) s = .next (answer d.request d.entry d.held (frames 0x38 1) t))) ∧
    (AtOwner s .capture .readBlock d →
      let n := d.request.field 1
      let k := min (min n s.agent.profile.blockLimit) (min c.unread d.held)
      (n = 0 ∨ 16 < n →
        exec (.readBlock .owner) s = .next ((s.took .capture).answers d [0x39, 0x05])) ∧
      (1 ≤ n → n ≤ 16 → c.unread = 0 →
        exec (.readBlock .owner) s = .next ((s.took .capture).answers d (noNew 0x39))) ∧
      (1 ≤ n → n ≤ 16 → c.unread ≠ 0 → ∃ t, Resumed (moved k) t ∧
        exec (.readBlock .owner) s = .next (answer d.request d.entry d.held (frames 0x39 k) t)))

/-- R141: READ-SLOT at the Capture Unit: slot 0 and slots above 1023 are refused RANGE; any other is read as
it stands, with the cursors and the unread count, and nothing but the answer changes. -/
def Obligations.ReadSlotMovesNothing : Prop :=
  ∀ (s : State) (d : Dispatch), AtOwner s .capture .readSlot d →
    let c := s.capture
    let i := d.request.field2 1
    let place := bytesOf 2 i ++ bytesOf 2 c.wc ++ bytesOf 2 c.rc ++ bytesOf 2 c.unread
    (i = 0 ∨ 1023 < i →
      exec (.readSlot .owner) s = .next ((s.took .capture).answers d [0x3A, 0x05])) ∧
    (1 ≤ i → i ≤ 1023 →
      exec (.readSlot .owner) s = .next ((s.took .capture).answers d
        (match c.slot i with
        | some r => [0x3A, 0x00] ++ place ++ r.bytes
        | none => [0x3A, 0x02] ++ place)))

/-- R142, R143: SET-READ-CURSOR at the Capture Unit. A slot above 1023, or one from which the write cursor is
not reached in at most 1022 steps, is refused RANGE; otherwise the read cursor stands there with U the number
of steps, an ARMED FILL capture with 1022 unread is FULL, a FULL one with 1006 or fewer resumes, and the reply
shows the cursors, U, the state and the GAP record, if one was written. An alert condition joins the pending
set at the event that raises it (the model's reading, log entry 8). -/
def Obligations.SetReadCursorCountsSteps : Prop :=
  ∀ (s : State) (d : Dispatch), AtOwner s .capture .setReadCursor d → CaptureOk s.capture →
    Cells.Wf none s.capture.ring →
    let c := s.capture
    let i := d.request.field2 1
    let reached := fun u => u ≤ 1022 ∧ nextSlot^[u] i = c.wc ∧ ∀ v, v < u → nextSlot^[v] i ≠ c.wc
    let moved := fun u => (s.took .capture).withCapture { c with rc := i, unread := u }
    (1023 < i ∨ (∀ u, ¬ reached u) →
      exec (.setReadCursor .owner) s = .next ((s.took .capture).answers d [0x3B, 0x05])) ∧
    (∀ u, i ≤ 1023 → reached u →
      let reply := fun (t : State) (gap : List Byte) =>
        [0x3B, 0x00] ++ bytesOf 2 t.capture.rc ++ bytesOf 2 t.capture.wc ++ bytesOf 2 t.capture.unread
          ++ [t.capture.state.code] ++ gap
      (c.state = .armed → c.mode = .fill → u = 1022 →
        let t := ((moved u).withCapture { (moved u).capture with state := .full }).alerted 0b0000001#7
        exec (.setReadCursor .owner) s = .next (t.answers d (reply t (bytesOf 2 0 ++ bytesOf 4 0)))) ∧
      (¬ (c.state = .armed ∧ c.mode = .fill ∧ u = 1022) →
        ∃ t, Resumed (moved u) t ∧
          exec (.setReadCursor .owner) s = .next (t.answers d (reply t
            (if c.state = .full ∧ u ≤ 1006 ∧ c.missed ≠ 0 then
              bytesOf 2 t.capture.wc ++ bytesOf 4 c.nextSerial.toNat
            else bytesOf 2 0 ++ bytesOf 4 0)))))

/-! ### The Table Store (chapter 9) -/

/-- R158, R159: STORE-PROGRAM at the Table Store: the checks of R158, then the tuning page, the lock flag and
the CRC-16 of the tuning page's 512 bytes; the first that fails is answered and changes nothing else. Accepted,
the page is INVALID, its erase count raised, the tuning page pinned and the engine ERASING. -/
def Obligations.StoreProgramAcceptance : Prop :=
  ∀ (s : State) (d : Dispatch), AtOwner s .store .storeProgram d → TablesOk s →
    let p := d.request.field 1
    let t := d.request.field 2
    let bytes := (List.range 256).flatMap fun i => wordBytes (s.resolver.word t i)
    let refusal := storeRefusal s d.request
      (if 3 < t then some 0x05
      else if s.store.isLocked p then some 0x0D
      else if (crc16 bytes).toNat ≠ d.request.field2 3 then some 0x10
      else none)
    (∀ c, refusal = some c →
      exec (.storeProgram .owner) s = .next ((s.took .store).answers d [0x20, c])) ∧
    (refusal = none →
      ∃ (x : Store) (y : Resolver), EraseBegun s.store .program p (some t) x ∧
        PinSet s.resolver (some t) true y ∧
        exec (.storeProgram .owner) s = .next ((((s.took .store).withStore x).withResolver y).answers d
          ([0x20, 0x00, 0x01, byteOf p, 0x02] ++ wordBytes (x.erases p) ++ [15])))

/-- R158, R161, R163: STORE-ERASE and STORE-UNLOCK-ERASE at the Table Store: the checks of R158, then for an
erase that the page is unlocked, for an unlock-erase that the session holds the override flag and the page is
locked. Accepted, the page is INVALID, its erase count raised, its lock flag kept and the engine ERASING. -/
def Obligations.StoreEraseAcceptance : Prop :=
  ∀ (s : State) (d : Dispatch), TablesOk s →
    let p := d.request.field 1
    let t := s.took .store
    (AtOwner s .store .storeErase d →
      let refusal := storeRefusal s d.request (if s.store.isLocked p then some 0x0D else none)
      (∀ c, refusal = some c → exec (.storeErase .owner) s = .next (t.answers d [0x21, c])) ∧
      (refusal = none → ∃ x, EraseBegun s.store .erase p none x ∧
        exec (.storeErase .owner) s = .next ((t.withStore x).answers d
          ([0x21, 0x00, 0x02, byteOf p, 0x02] ++ wordBytes (x.erases p) ++ [8])))) ∧
    (AtOwner s .store .storeUnlockErase d →
      let refusal := storeRefusal s d.request
        (if s.agent.session.map (·.override) ≠ some true then some 0x09
        else if s.store.isLocked p = false then some 0x0E
        else none)
      (∀ c, refusal = some c → exec (.storeUnlockErase .owner) s = .next (t.answers d [0x23, c])) ∧
      (refusal = none → ∃ x, EraseBegun s.store .unlockErase p none x ∧
        exec (.storeUnlockErase .owner) s = .next ((t.withStore x).answers d
          ([0x23, 0x00, 0x03, byteOf p, 0x82] ++ wordBytes (x.erases p) ++ [8]))))

/-- R158, R162: STORE-LOCK at the Table Store: the checks of R158, then LOCKED for a locked page and STATE for
an INVALID one. Accepted, the engine is LOCKING for 2 ms and nothing else of the store changes. -/
def Obligations.StoreLockAcceptance : Prop :=
  ∀ (s : State) (d : Dispatch), AtOwner s .store .storeLock d →
    let p := d.request.field 1
    let refusal := storeRefusal s d.request
      (if s.store.isLocked p then some 0x0D
      else if s.store.state p = .invalid then some 0x12
      else none)
    (∀ c, refusal = some c → exec (.storeLock .owner) s = .next ((s.took .store).answers d [0x22, c])) ∧
    (refusal = none →
      exec (.storeLock .owner) s = .next (((s.took .store).withStore
        { s.store with engine := some ⟨.lock, p, none, .locking, 50000⟩ }).answers d
        ([0x22, 0x00, 0x04, byteOf p, if s.store.state p = .valid then 0x01 else 0x00]
          ++ wordBytes (s.store.erases p) ++ [2])))

/-- R155, R156, R164, R167: STORE-ABORT and the changes of STORE_GUARD at the Table Store. An abort needs the
session and an operation in flight, which ends ABORTED in its phase; a fall ends the operation in flight
GUARD-LOST and raises STORE-FAULT; either clears the pin of the source. With the engine READY a fall changes
only the level, as a rise does. An alert condition joins the pending set at the event that raises it (the
model's reading, log entry 8). -/
def Obligations.StoreAbortAndGuard : Prop :=
  ∀ (s : State), Cells.Wf false s.resolver.pins →
    (∀ d, AtOwner s .store .storeAbort d →
      let t := s.took .store
      let owns := s.agent.session.map (·.owner) = some d.request.source
      (¬ owns → exec (.storeAbort .owner) s = .next (t.answers d [0x24, 0x07])) ∧
      (owns → s.store.engine = none → exec (.storeAbort .owner) s = .next (t.answers d [0x24, 0x0C])) ∧
      (∀ o, owns → s.store.engine = some o → ∃ y, PinSet s.resolver o.source false y ∧
        exec (.storeAbort .owner) s = .next (((t.withStore
          { s.store with
            engine := none, latch := .aborted,
            last := some ⟨o.kind, o.page, o.source, .aborted, o.phase, s.time.linkTime⟩ }).withResolver
          y).answers d [0x24, 0x00, o.kind.code, byteOf o.page, o.phase.code]))) ∧
    (s.powered = true →
      (s.store.engine = none →
        exec .storeGuardFall s = .next (s.withStore { s.store with guard := false })) ∧
      (∀ o, s.store.engine = some o → ∃ y, PinSet s.resolver o.source false y ∧
        exec .storeGuardFall s = .next (((s.withStore
          { s.store with
            guard := false, engine := none, latch := .guardLost,
            last := some ⟨o.kind, o.page, o.source, .guardLost, o.phase, s.time.linkTime⟩ }).withResolver y
          ).alerted 0b0001000#7)) ∧
      exec .storeGuardRise s = .next (s.withStore { s.store with guard := true }))

/-- R165: STORE-CLEAR-FAULT at the Table Store: after the session check it is refused BUSY while the engine is
BUSY; otherwise the latch becomes NONE and the reply carries the value it had. Nothing else changes. -/
def Obligations.StoreClearFaultClearsLatch : Prop :=
  ∀ (s : State) (d : Dispatch), AtOwner s .store .storeClearFault d →
    let t := s.took .store
    let owns := s.agent.session.map (·.owner) = some d.request.source
    let latch : Byte :=
      match s.store.latch with
      | .none => 0 | .verifyFail => 1 | .eraseFail => 2 | .aborted => 3 | .guardLost => 4
    (¬ owns → exec (.storeClearFault .owner) s = .next (t.answers d [0x25, 0x07])) ∧
    (owns → s.store.engine ≠ none →
      exec (.storeClearFault .owner) s = .next (t.answers d [0x25, 0x0B])) ∧
    (owns → s.store.engine = none →
      exec (.storeClearFault .owner) s
        = .next ((t.withStore { s.store with latch := .none }).answers d [0x25, 0x00, latch]))

/-- R166, 11.5: STORE-STATUS at the Table Store is answered OK in every engine state and changes nothing but
the answer: 52 payload bytes with the engine, the latch, the guard, the last result and every page's state,
lock flag and erase count. With no last result the operation is 0 and the source 255, and the layout's other
last-result bytes hold values the spec leaves open. The bytes that the layout leaves without a value are free
values (log entry 12). That the source byte is then 255 is the model's reading of 11.5 (log entry 22), and
that the source byte of an operation in flight other than a program is 255 is its choice (log entry 33). -/
def Obligations.StoreStatusShowsStore : Prop :=
  ∀ (s : State) (d : Dispatch), AtOwner s .store .storeStatus d →
    let x := s.store
    let engine : List Byte :=
      match x.engine with
      | none => [0, 0, 255, 255]
      | some o => [o.phase.code, o.kind.code, byteOf o.page,
          match o.source with | some t => byteOf t | none => 255]
    let pages := (List.range 11).flatMap fun p =>
      byteOf ((match x.state p with | .erased => 0 | .valid => 1 | .invalid => 2)
        + if x.isLocked p then 128 else 0) :: wordBytes (x.erases p)
    ∃ (last : List Byte) (n : Nat), last.length = 11 ∧
      (x.last = none → last.getD 0 0 = 0 ∧ last.getD 2 0 = 255) ∧
      (∀ l, x.last = some l → n = s.draws ∧
        last = [l.kind.code, byteOf l.page, match l.source with | some t => byteOf t | none => 255,
          l.ending.code, l.phase.code] ++ bytesOf 6 l.time.toNat) ∧
      exec (.storeStatus .owner) s = .next (((s.took .store).withDraws n).answers d
        ([0x26, 0x00] ++ engine ++ [x.latch.code, if x.guard then 1 else 0] ++ last ++ pages))

/-- R150, R152, R154 to R157, R160 to R163: the completion of each phase, with the time left of it passed.
ERASING of a program begins WRITING for 6 ms, which writes the 256 words of the source and begins VERIFYING
for 1 ms; every last phase leaves the engine READY with its last result. A verify that finds the words equal
makes the page VALID; an erase that succeeds makes it ERASED and unlocked; a lock sets the lock flag; each
raises STORE-DONE. A verify or erase that fails keeps the page INVALID, latches its fault and raises
STORE-FAULT. The source's pin is cleared at the end. Timed events let the time left on their timer pass first
(the model's choice, log entry 3). An alert condition joins the pending set at the event that raises it (the
model's reading, log entry 8). Whether the array held the words, and whether an erase succeeded, are operands
(log entry 18); when the words of a page change within its phase is the model's choice (log entry 19). -/
def Obligations.PhaseCompletions : Prop :=
  ∀ (s : State) (o : Operation), s.powered = true → s.store.engine = some o → TablesOk s →
    let e := elapse o.left s
    let ended := fun (x : Store) (y : Resolver) (g : Ending) (l : Latch) (bits : AlertSet) =>
      ((e.withStore { x with engine := none, latch := l,
                             last := some ⟨o.kind, o.page, o.source, g, o.phase, e.time.linkTime⟩ }
        ).withResolver y).alerted bits
    let done := 0b0000100#7
    let fault := 0b0001000#7
    (o.kind = .program → o.phase = .erasing → ∃ x : Store,
      (∀ q i, q ≠ o.page → i < 256 → x.word q i = s.store.word q i) ∧
      exec .programErasingComplete s = .next (e.withStore
        { e.store with words := x.words, engine := some { o with phase := .writing, left := 150000 } })) ∧
    (∀ t, o.kind = .program → o.phase = .writing → o.source = some t → ∃ x : Store,
      (∀ q i, i < 256 → x.word q i = if q = o.page then s.resolver.word t i else s.store.word q i) ∧
      exec .writingComplete s = .next (e.withStore
        { e.store with words := x.words, engine := some { o with phase := .verifying, left := 25000 } })) ∧
    (∀ t held, o.kind = .program → o.phase = .verifying → o.source = some t →
      ∃ y, PinSet s.resolver (some t) false y ∧
        let equal := held = true ∧ ∀ i, i < 256 → s.store.word o.page i = s.resolver.word t i
        (equal → ∃ x : Store, (∀ q, x.state q = if q = o.page then .valid else s.store.state q) ∧
          exec (.verifyComplete held) s
            = .next (ended { e.store with pageState := x.pageState } y .done s.store.latch done)) ∧
        (¬ equal → exec (.verifyComplete held) s
            = .next (ended e.store y .verifyFail .verifyFail fault))) ∧
    (∀ good, o.kind = .erase ∨ o.kind = .unlockErase → o.phase = .erasing → o.source = none →
      (good = true → ∃ x : Store,
        (∀ q, x.state q = if q = o.page then .erased else s.store.state q) ∧
        (∀ q, x.isLocked q = if q = o.page then false else s.store.isLocked q) ∧
        (∀ q i, q ≠ o.page → i < 256 → x.word q i = s.store.word q i) ∧
        exec (.eraseComplete good) s = .next (ended
          { e.store with pageState := x.pageState, locked := x.locked, words := x.words }
          s.resolver .done s.store.latch done)) ∧
      (good = false → exec (.eraseComplete good) s
        = .next (ended e.store s.resolver .eraseFail .eraseFail fault))) ∧
    (o.kind = .lock → o.phase = .locking → o.source = none → ∃ x : Store,
      (∀ q, x.isLocked q = if q = o.page then true else s.store.isLocked q) ∧
      exec .lockComplete s = .next (ended { e.store with locked := x.locked }
        s.resolver .done s.store.latch done))

/-! ### Intake, dispatch and answers (chapter 10) -/

/-- R177, R178, R184, R186: the checks of an intake, in order, for a request of any kind `k` or of none. With
no free frame it is dropped and REQUEST-DROP counts. A code that names no request is answered UNKNOWN-REQUEST,
IDENTIFY is answered at once, and a requester not admitted NOT-MANAGER, none of them kept; a new request of a
length other than 11.2 gives its code is answered BAD-LENGTH, and one that needs the session without owning it
NO-SESSION, both kept. The session timer of an owner was started again in every case, and nothing else
changes. -/
def Obligations.IntakeChecksInOrder : Prop :=
  ∀ (s : State) (p : Port) (r : Request) (k : Option ReqKind) (strap : BitVec 2),
    AtIntake s p r → r.kind = k →
    let c : Instr := match k with | none => .unknownRequest p | some k => requestCommand strap k p
    let s0 := if k = some .restart then s.withStrap strap else s
    let t := s0.received p r
    let code := r.payload.getD 0 0
    let a := s.agent.profile
    let kept := fun result : Byte => answer r s.agent.nextId 0 [[code, result]] (s0.entered p r)
    let n := r.payload.length
    let right : ReqKind → Prop := fun j => match j with
      | .identify | .status | .countersClear | .restart | .closeSession | .storeAbort | .storeClearFault
      | .storeStatus | .captureStop | .captureClear | .readNext => n = 1
      | .counters | .openSession | .alertAck | .windowRead | .storeErase | .storeLock | .storeUnlockErase
      | .captureMode | .readBlock => n = 2
      | .readSlot | .setReadCursor => n = 3
      | .tuneRead | .pageRead => n = 4
      | .windowSet | .storeProgram => n = 5
      | .captureArm => n = 1 ∨ n = 3
      | .captureMark => 2 ≤ n ∧ n ≤ 13
      | .tuneWrite => 4 ≤ n ∧ n = 4 + 2 * r.field 3
    (∀ j, j.lengthRight r.payload = true ↔ right j) ∧
    ((s.port p).free = 0 →
      exec c s = .next (t.onPort p fun x => { x with requestDrop := bump x.requestDrop })) ∧
    (0 < (s.port p).free →
      (k = none → exec c s = .next (t.repliesUnkept p r [code, 0x03])) ∧
      (k = some .identify → r.payload.length ≠ 1 → exec c s = .next (t.repliesUnkept p r [0x01, 0x04])) ∧
      (k = some .identify → r.payload.length = 1 →
        exec c s = .next (t.repliesUnkept p r
          [0x01, 0x00, 0x48, 0x53, 0x31, 0x40, 0x01, a.address, if a.loaded then 1 else 0])) ∧
      (∀ j, k = some j → j ≠ .identify →
        let admitted := a.managers = [] ∨ r.source ∈ a.managers ∨
          (j = .alertAck ∧ a.alertNode = some r.source)
        (¬ admitted → exec c s = .next (t.repliesUnkept p r [code, 0x06])) ∧
        (admitted → s.agent.repeated r = none →
          (¬ right j → exec c s = .next (kept 0x04)) ∧
          (right j → j = .tuneWrite ∨ j = .windowSet ∨ j = .closeSession →
            s.agent.session.map (·.owner) ≠ some r.source → exec c s = .next (kept 0x07)))))

/-- R181, R182: a repeat, a request from a requester whose Retry Cache entry has its sequence number, is not
carried out: the cached frames are placed again in their order where the arrival port has room for all of
them; pending, or without that room, it is dropped and REQUEST-DROP counts. The entry is then the most
recently used. -/
def Obligations.RepeatAnsweredFromCache : Prop :=
  ∀ (s : State) (p : Port) (r : Request) (k : ReqKind) (e : CacheEntry) (strap : BitVec 2),
    AtIntake s p r → r.kind = some k → k ≠ .identify → 0 < (s.port p).free →
    s.agent.profile.admits k r.source = true → (s.agent.cache.map (·.node)).Nodup →
    e ∈ s.agent.cache → e.node = r.source → e.seq = r.seq →
    let t := (if k = .restart then s.withStrap strap else s).received p r
    let u := t.withAgent { t.agent with cache := e :: t.agent.cache.filter fun x => x.node != r.source }
    (∀ fs, e.frames = some fs → fs.length ≤ (s.port p).free →
      exec (requestCommand strap k p) s
        = .next (u.onPort p (PortState.placeAll (fs.map fun f => ⟨f, 0⟩)))) ∧
    (e.frames = none ∨ (∃ fs, e.frames = some fs ∧ (s.port p).free < fs.length) →
      exec (requestCommand strap k p) s
        = .next (u.onPort p fun x => { x with requestDrop := bump x.requestDrop }))

/-- R138, R177, R179, R180, R182: a new request of another block that passes the checks of its intake is
dispatched: codes 0x10 to 0x14 to the Page Resolver, 0x20 to 0x26 to the Table Store, 0x30 to 0x3B to the
Capture Unit, behind those dispatched before, with one reply frame held for it, or all free frames for a
READ-BLOCK. Nothing changes at the owner. -/
def Obligations.NewRequestDispatchedWithRoom : Prop :=
  ∀ (s : State) (p : Port) (r : Request) (k : ReqKind), PassesAsNew s p r k →
    k.lengthRight r.payload = true → 0x10 ≤ (r.payload.getD 0 0).toNat →
    (k = .tuneWrite ∨ k = .windowSet → s.agent.session.map (·.owner) = some r.source) →
    let code := (r.payload.getD 0 0).toNat
    let b : Block := if code ≤ 0x14 then .resolver else if code ≤ 0x26 then .store else .capture
    let held := if k = .readBlock then (s.port p).free else 1
    let u := s.entered p r
    exec (requestCommand 0 k p) s = .next
      ((u.onPort p fun x => { x with reservation := x.reservation + held }).withAgent
        { u.agent with dispatched := u.agent.dispatched ++ [⟨b, r, s.agent.nextId, held, none⟩] })

/-- R4, R27, R179, R180, R182: an answer builds one MGMT-RSP frame for each payload, to the requester, from
the own address, under the request's sequence, gives back the frames held, and places its frames in order:
each is dropped and counted at a LINK-DOWN port; an idle transmitter takes the first; the others join the
tail of the Reply Queue. The Retry Cache entry made for the request takes the frames and is the most recently
used; where it is gone no entry takes them. -/
def Obligations.AnswersBuiltPlacedAndKept : Prop :=
  ∀ (s : State) (r : Request) (entry held : Nat) (payloads : List (List Byte)),
    EgressOk (s.port r.port) → (s.agent.cache.map (·.id)).Nodup →
    let own := s.agent.profile.address
    let frames : List Frame := payloads.map fun x =>
      { dst := r.source, src := own, kind := .mgmtRsp, seq := r.seq, payload := x,
        check := crc16 ([r.source, own, 0x04, r.seq, byteOf x.length] ++ x) }
    let y : PortState :=
      { s.port r.port with reservation := (s.port r.port).reservation - held }
    let z : PortState :=
      match y.link, y.sending, frames with
      | .down, _, _ => { y with replyLost := bumpBy y.replyLost frames.length }
      | .up, some _, _ => { y with reply := y.reply ++ frames.map fun f => ⟨f, 0⟩ }
      | .up, none, [] => y
      | .up, none, f :: fs =>
        { y with passover := 0, sending := some ⟨f, true, 8 * f.bytes.length + 16⟩,
                 reply := fs.map fun f => ⟨f, 0⟩ }
    let placed := fun c : List CacheEntry => (s.withPort r.port z).withAgent { s.agent with cache := c }
    ((∀ e ∈ s.agent.cache, e.id ≠ entry) → answer r entry held payloads s = placed s.agent.cache) ∧
    (∀ e ∈ s.agent.cache, e.id = entry → answer r entry held payloads s
      = placed ({ e with frames := some frames } :: s.agent.cache.filter fun x => x.node != e.node))

/-! ### Session, alerts and gatherings (chapter 10) -/

/-- R183, R184, R185: OPEN-SESSION is refused GUARD-LOW while STORE_GUARD is low as the Agent took it, and
SESSION-HELD while another node owns the session; otherwise the requester owns it with the flag carried and
the timer at the session timeout. CLOSE-SESSION from the owner ends it. The expiry of the timer ends it and
raises SESSION-EXPIRED; a fall of STORE_GUARD at the Agent ends it without an alert; a rise only sets the
level. Timed events let the time left on their timer pass first (the model's choice, log entry 3). An alert
condition joins the pending set at the event that raises it (the model's reading, log entry 8). -/
def Obligations.SessionOpensAndEnds : Prop :=
  ∀ (s : State),
    (∀ p r, PassesAsNew s p r .openSession → r.payload.length = 2 →
      let u := s.entered p r
      let flag := (r.payload.getD 1 0).getLsbD 0
      let timeout := s.agent.profile.timeout
      let free := s.agent.session = none ∨ s.agent.session.map (·.owner) = some r.source
      (s.agent.guard = false →
        exec (.openSession p) s = .next (answer r s.agent.nextId 0 [[0x06, 0x0A]] u)) ∧
      (∀ x, s.agent.guard = true → s.agent.session = some x → x.owner ≠ r.source →
        exec (.openSession p) s = .next (answer r s.agent.nextId 0 [[0x06, 0x08, x.owner]] u)) ∧
      (s.agent.guard = true → free →
        exec (.openSession p) s = .next (answer r s.agent.nextId 0
          [[0x06, 0x00, r.source, if flag then 1 else 0, byteOf timeout]]
          (u.withAgent { u.agent with session := some ⟨r.source, flag, timeout * 25000000⟩ })))) ∧
    (∀ p r, PassesAsNew s p r .closeSession → r.payload.length = 1 →
      s.agent.session.map (·.owner) = some r.source →
      let u := s.entered p r
      exec (.closeSession p) s = .next (answer r s.agent.nextId 0 [[0x07, 0x00]]
        (u.withAgent { u.agent with session := none }))) ∧
    (s.powered = true →
      (∀ x, s.agent.session = some x →
        let e := elapse x.left s
        exec .sessionExpiry s = .next (e.withAgent
          { e.agent with
            session := none
            alerts := { e.agent.alerts with pending := s.agent.alerts.pending ||| 0b0010000#7 } })) ∧
      exec .agentGuardFall s = .next (s.withAgent { s.agent with session := none, guard := false }) ∧
      exec .agentGuardRise s = .next (s.withAgent { s.agent with guard := true }))

/-- R190, R191: the alert cycle. A send is taken when a retry is due, or when something is pending, nothing
outstanding and an alert node named, and the port that the node's map entry names, Port U unless it is DOWN,
has a free frame; it places the ALERT frame, makes the set outstanding, counts the try, takes the serial and
starts the ack timer. The expiry of that timer makes a retry due after a first or second try and gives the set
up as unreported after the third. An ALERT-ACK of the current serial ends the cycle; any other is answered
STALE. A send is an event of its own (log entry 8), and that the command changes nothing where no send is due
or no alert node is named is the model's choice (log entry 1). Timed events let the time left on their timer
pass first (the model's choice, log entry 3). -/
def Obligations.AlertCycle : Prop :=
  ∀ (s : State), s.powered = true →
    let a := s.agent.alerts
    (s.agent.profile.alertNode = none → exec .alertSend s = .next s) ∧
    (∀ node, s.agent.profile.alertNode = some node →
      let due := a.retryDue = true ∨ (a.pending ≠ 0 ∧ a.outstanding = 0)
      let q : Port :=
        if Cells.read Side.unknown s.classifier.nodeMap node.toNat = .down then .D else .U
      let set : AlertSet := if a.retryDue then a.outstanding ||| a.pending else a.pending
      let tries := if a.retryDue then a.tries + 1 else 1
      let payload : List Byte := [a.nextSerial, set.setWidth 8, byteOf tries]
      let own := s.agent.profile.address
      let f : Frame :=
        { dst := node, src := own, kind := .alert, seq := a.nextSerial, payload := payload,
          check := crc16 ([node, own, 0x05, a.nextSerial, 0x03] ++ payload) }
      (¬ due ∨ (s.port q).free = 0 → exec .alertSend s = .next s) ∧
      (due → 0 < (s.port q).free →
        exec .alertSend s = .next ((s.onPort q (·.place ⟨f, 0⟩)).withAgent
          { s.agent with
            alerts := { pending := 0, outstanding := set, unreported := a.unreported,
                        ackTimer := some 25000000, tries := tries, retryDue := false,
                        nextSerial := a.nextSerial + 1, current := a.nextSerial } }))) ∧
    (∀ n, a.ackTimer = some n → a.outstanding ≠ 0 →
      let e := elapse n s
      (a.tries < 3 → exec .ackTimerExpiry s = .next (e.withAgent
        { e.agent with alerts := { a with ackTimer := none, retryDue := true } })) ∧
      (3 ≤ a.tries → exec .ackTimerExpiry s = .next (e.withAgent
        { e.agent with
          alerts := { a with ackTimer := none, unreported := a.unreported ||| a.outstanding,
                             outstanding := 0, tries := 0 } }))) ∧
    (∀ p r, PassesAsNew s p r .alertAck → r.payload.length = 2 →
      let u := s.entered p r
      let current := a.outstanding ≠ 0 ∧ r.payload.getD 1 0 = a.current
      (current → exec (.alertAck p) s = .next (answer r s.agent.nextId 0 [[0x08, 0x00]] (u.withAgent
        { u.agent with
          alerts := { a with outstanding := 0, ackTimer := none, tries := 0, retryDue := false } }))) ∧
      (¬ current → exec (.alertAck p) s = .next (answer r s.agent.nextId 0 [[0x08, 0x15]] u)))

/-- R179, R180, R187, R188, R197: a new STATUS, COUNTERS or COUNTERS-CLEAR holds its reply room and is
dispatched to every block whose part it takes. STATUS takes the Agent's part, bytes 2 to 15 of 11.5, and then
clears the pending set where no alert node is named and the unreported set where one is. COUNTERS of a group
above 4 is refused RANGE; group 0 holds two frames where two are free. Byte 8 with no session and byte 14 with
a try count of 0 are free values (log entry 12). That a COUNTERS of group 0 with one free frame is dispatched
to both ports is the model's reading (log entry 20). -/
def Obligations.GatheringsBegin : Prop :=
  ∀ (s : State) (p : Port) (r : Request),
    let n := s.agent.nextId
    let begins := fun (u : State) (k : GatherKind) (held : Nat) (blocks : List Block) =>
      (u.onPort p fun x => { x with reservation := x.reservation + held }).withAgent
        { u.agent with
          nextId := n + 2
          gathers := u.agent.gathers ++ [⟨n + 1, k, r, n, held, blocks, []⟩]
          dispatched := u.agent.dispatched ++ blocks.map fun b => ⟨b, r, n, held, some (n + 1)⟩ }
    let u := s.entered p r
    (PassesAsNew s p r .status → r.payload.length = 1 →
      let a := u.agent
      let profile : List Byte :=
        [if a.profile.loaded then 1 else 0,
          match a.profileState with | .absent => 0 | .loaded => 1 | .rejected _ => 2,
          match a.profileState with | .rejected i => byteOf i | _ => 0,
          a.profile.address, a.strapRead.setWidth 8]
      ∃ (session : List Byte) (serial : Byte) (draws : Nat),
        (∀ x, a.session = some x →
          session = [x.owner, if x.override then 1 else 0, byteOf ((x.left + 24999999) / 25000000)]) ∧
        (a.session = none → ∃ b, session = [255, b, 0]) ∧
        (0 < a.alerts.tries → serial = a.alerts.current) ∧
        let part := profile ++ session ++
          [match a.profile.alertNode with | some node => node | none => 255,
            a.alerts.pending.setWidth 8, a.alerts.outstanding.setWidth 8, a.alerts.unreported.setWidth 8,
            serial, byteOf a.alerts.tries]
        let cleared : Alerts := if a.profile.alertNode = none then { a.alerts with pending := 0 }
          else { a.alerts with unreported := 0 }
        exec (.status p) s = .next (begins ((u.withAgent { a with alerts := cleared }).withDraws draws)
          (.status part) 1 [.timeBase, .port .U, .port .D, .capture, .store])) ∧
    (PassesAsNew s p r .counters → r.payload.length = 2 →
      let g := (r.payload.getD 1 0).toNat
      (4 < g → exec (.counters p) s = .next (answer r n 0 [[0x03, 0x05]] u)) ∧
      (g ≤ 4 → exec (.counters p) s = .next (begins u (.counters g)
        (if g = 0 ∧ 2 ≤ (s.port p).free then 2 else 1)
        (if g = 0 then [.port .U, .port .D] else if g = 1 then [.classifier, .trigger]
          else [.classifier])))) ∧
    (PassesAsNew s p r .countersClear → r.payload.length = 1 →
      exec (.countersClear p) s
        = .next (begins u .clear 1 [.port .U, .port .D, .classifier, .trigger]))

/-- R129, R187, 11.5: a part of a STATUS is read at the Time Base, at each port, at the Capture Unit and at
the Table Store as the block stands, and nothing else changes; the last one has the reply placed: the Agent's
part, then the parts in the order of the layout. -/
def Obligations.StatusPartsReadWhole : Prop :=
  ∀ (s : State) (g : Gather) (own : List Byte), g.kind = .status own →
    let halves := fun p => match s.store.state p with | .erased => 0 | .valid => 1 | .invalid => 2
    let replies := fun x : Gather => [[x.request.payload.getD 0 0, 0x00] ++ own ++ x.part .timeBase
      ++ [(x.part (.port .U)).getD 0 0 ||| (x.part (.port .D)).getD 0 0] ++ x.part .capture
      ++ x.part .store]
    let c := s.capture
    (AtPart s .timeBase g → ∃ t,
      PartGiven g .timeBase ([if s.time.synced then (1 : Byte) else 0] ++ bytesOf 6 s.time.linkTime.toNat
        ++ [match s.time.timeMaster with | some m => m | none => 255]) replies (s.took .timeBase) t ∧
      exec (.statusPartRead .timeBase) s = .next t) ∧
    (∀ p, AtPart s (.port p) g → ∃ t,
      PartGiven g (.port p) [if (s.port p).link = .up then (match p with | .U => 1 | .D => 2) else 0]
        replies (s.took (.port p)) t ∧
      exec (.statusPartRead (.port p)) s = .next t) ∧
    (AtPart s .capture g → ∃ t,
      PartGiven g .capture
        (([match c.state with | .idle => 0 | .armed => 1 | .full => 2 | .stopped => 3,
            match c.mode with | .wrap => 0 | .fill => 1] : List Byte)
          ++ bytesOf 2 c.wc ++ bytesOf 2 c.rc ++ bytesOf 2 c.unread ++ bytesOf 4 c.nextSerial.toNat
          ++ bytesOf 2 c.limit ++ bytesOf 2 c.limitCount ++ bytesOf 4 c.missed.toNat
          ++ bytesOf 4 c.overwritten.toNat
          ++ [match c.stopReason with | .none => 0 | .request => 1 | .limit => 2 | .restart => 3])
        replies (s.took .capture) t ∧
      exec (.statusPartRead .capture) s = .next t) ∧
    (AtPart s .store g → ∃ t,
      PartGiven g .store
        (([match s.store.engine with
            | none => 0
            | some o => match o.phase with
              | .erasing => 1 | .writing => 2 | .verifying => 3 | .locking => 4,
            match s.store.engine with | none => 255 | some o => byteOf o.page,
            match s.store.latch with
            | .none => 0 | .verifyFail => 1 | .eraseFail => 2 | .aborted => 3 | .guardLost => 4] : List Byte)
          ++ (List.range 6).map fun i =>
            byteOf (16 * halves (2 * i) + if i = 5 then 0 else halves (2 * i + 1)))
        replies (s.took .store) t ∧
      exec (.statusPartRead .store) s = .next t)

/-- R188, R197: a part of a COUNTERS is read, and a part of a COUNTERS-CLEAR set to 0, at the port, the
Classifier or the Trigger Unit that keeps the counters; the last part has the reply placed: two frames for
group 0 where two were held, each with its part byte, Port U's alone where one was. Nothing else changes. That
a COUNTERS of group 0 with one frame held also waits for Port D is the model's reading (log entry 20). -/
def Obligations.CounterPartsReadAndCleared : Prop :=
  ∀ (s : State) (g : Gather),
    let code := g.request.payload.getD 0 0
    let count := fun c : Count => bytesOf 4 c.toNat
    (∀ n, g.kind = .counters n →
      let replies := fun x : Gather =>
        if n = 0 then
          if 2 ≤ x.held then
            [[code, 0x00, 0, 0x12] ++ x.part (.port .U), [code, 0x00, 0, 0x22] ++ x.part (.port .D)]
          else [[code, 0x00, 0, 0x11] ++ x.part (.port .U)]
        else [[code, 0x00, byteOf n, 0x11] ++ x.part .classifier ++ x.part .trigger]
      (∀ p, AtPart s (.port p) g → ∃ t,
        let x := s.port p
        PartGiven g (.port p)
          ([x.rxGood, x.rxCheckErr, x.rxFormatErr, x.txFrames, x.transitDropFull, x.transitDropDown,
            x.replyLost, x.requestDrop].flatMap count) replies (s.took (.port p)) t ∧
        exec (.countersPartRead (.port p)) s = .next t) ∧
      (AtPart s .classifier g → 1 ≤ n → n ≤ 4 → ∃ t,
        let x := s.classifier
        let classes := fun lo k =>
          (List.range k).map fun i => Cells.read 0 x.classCount (lo + i)
        PartGiven g .classifier
          ((if n = 1 then [x.unmatched, x.unresolved, x.holdDiscard, x.toSelf]
            else if n = 2 then classes 0 12 else if n = 3 then classes 12 12
            else classes 24 8).flatMap count) replies (s.took .classifier) t ∧
        exec (.countersPartRead .classifier) s = .next t) ∧
      (AtPart s .trigger g → ∃ t,
        PartGiven g .trigger (count s.trigger.overflow) replies (s.took .trigger) t ∧
        exec (.countersPartRead .trigger) s = .next t)) ∧
    (g.kind = .clear →
      let replies := fun _ : Gather => [[code, (0x00 : Byte)]]
      (∀ p, AtPart s (.port p) g → ∃ t,
        PartGiven g (.port p) [] replies ((s.took (.port p)).onPort p fun x =>
          { x with rxGood := 0, rxCheckErr := 0, rxFormatErr := 0, txFrames := 0, transitDropFull := 0,
                   transitDropDown := 0, replyLost := 0, requestDrop := 0 }) t ∧
        exec (.countersPartClear (.port p)) s = .next t) ∧
      (AtPart s .classifier g → ∃ t,
        PartGiven g .classifier [] replies ((s.took .classifier).withClassifier
          { s.classifier with toSelf := 0, unmatched := 0, unresolved := 0, holdDiscard := 0,
                              classCount := [] }) t ∧
        exec (.countersPartClear .classifier) s = .next t) ∧
      (AtPart s .trigger g → ∃ t,
        PartGiven g .trigger [] replies
          ((s.took .trigger).withTrigger { s.trigger with overflow := 0 }) t ∧
        exec (.countersPartClear .trigger) s = .next t))

/-! ### The Active Profile, RESTART and power (chapter 10) -/

/-- R175, R176, R195: the load of the Active Profile from store page 0. A page that is not VALID or lacks the
marker gives bare mode, ABSENT; the first field out of range gives bare mode, REJECTED with its index; every
field in range gives the profile the page names. -/
def Obligations.ProfileLoadedFromPageZero : Prop :=
  ∀ (t : Store) (strap : BitVec 2),
    let w := fun i => t.word 0 i
    let n := fun i => (t.word 0 i).toNat
    let bare : Profile :=
      { loaded := false, address := 120 + strap.setWidth 8, managers := [], alertNode := none,
        timeMaster := none, defaultMode := .wrap, autostart := false, blockLimit := 16, timeout := 10,
        unmatched := .pass }
    let managers := (List.range (n 2)).map fun i => w (3 + i)
    let node := fun i : Nat => if w i = 0xFFFF then none else some ((w i).setWidth 8 : Byte)
    let ok : Nat → Prop := fun i =>
      (i = 1 → 1 ≤ n 1 ∧ n 1 ≤ 126) ∧
      (i = 2 → n 2 ≤ 4 ∧ (∀ m ∈ managers, m.toNat ≤ 126) ∧ managers.Nodup) ∧
      (i = 3 → w 7 = 0xFFFF ∨ (n 7 ≤ 126 ∧ w 7 ≠ w 1)) ∧ (i = 4 → w 8 = 0xFFFF ∨ n 8 ≤ 126) ∧
      (i = 5 → n 9 ≤ 1) ∧ (i = 6 → n 10 ≤ 1) ∧ (i = 7 → 1 ≤ n 11 ∧ n 11 ≤ 16) ∧
      (i = 8 → 1 ≤ n 12 ∧ n 12 ≤ 60) ∧ (i = 9 → n 13 ≤ 1)
    (t.state 0 ≠ .valid ∨ w 0 ≠ 0x5042 → t.loadProfile strap = (bare, .absent)) ∧
    (t.state 0 = .valid → w 0 = 0x5042 →
      (∀ i, 1 ≤ i → i ≤ 9 → ¬ ok i → (∀ j, j < i → ok j) →
        t.loadProfile strap = (bare, .rejected i)) ∧
      ((∀ i, ok i) → t.loadProfile strap =
        ({ loaded := true, address := (w 1).setWidth 8, managers := managers.map (·.setWidth 8),
           alertNode := node 7, timeMaster := node 8, defaultMode := if n 9 = 0 then .wrap else .fill,
           autostart := n 10 == 1, blockLimit := n 11, timeout := n 12,
           unmatched := if n 13 = 0 then .pass else .hold }, .loaded)))

/-- R26, R192, R193: a new RESTART is refused BUSY while the engine is BUSY. Otherwise the reply OK is placed,
built with the own address before the reload and kept by no entry; the session ends, the Retry Cache and the
alert sets are emptied, the profile is loaded again with the strap read, a REJECTED load raising
PROFILE-REJECTED, and every block owes its RESTART event; reservations and the next alert serial are kept. An
alert condition joins the pending set at the event that raises it (the model's reading, log entry 8). The
count of RESTART events that the OK reply outlives is the model's own (log entry 11). -/
def Obligations.RestartAtTheAgent : Prop :=
  ∀ (s : State) (p : Port) (r : Request) (strap : BitVec 2), PassesAsNew s p r .restart →
    r.payload.length = 1 →
    let u := (s.withStrap strap).entered p r
    let a := u.agent
    let owed := (a.restarts.filter fun x => match p with | .U => x.egressU | .D => x.egressD).length
    (s.store.engine ≠ none →
      exec (.restart p strap) s = .next (answer r s.agent.nextId 0 [[0x05, 0x0B]] u)) ∧
    (s.store.engine = none →
      exec (.restart p strap) s = .next
        ((u.onPort p (·.place ⟨a.buildReply r [0x05, 0x00], owed + 1⟩)).withAgent
          { a with
            profile := (s.store.loadProfile strap).1
            profileState := (s.store.loadProfile strap).2
            strapRead := strap
            session := none
            cache := []
            restarts := a.restarts ++ [⟨true, true, true, true, true, true, true⟩]
            alerts :=
              { a.alerts with
                pending := match (s.store.loadProfile strap).2 with
                  | .rejected _ => 0b1000000#7
                  | _ => 0
                outstanding := 0, unreported := 0, ackTimer := none, tries := 0, retryDue := false } }))

/-- R17, R22, R26, R55, R65, R88, R131, R194: each block's own RESTART event, owed to the oldest RESTART that
still waits for it. The egress side empties both queues but for the RESTART reply; the Classifier forgets
every node; the windows are disabled; the Trigger Unit is FROZEN with an empty queue; an ARMED or FULL capture
is STOPPED; the Time Base takes the time master. When every block has carried out its event, the autostart of
a profile that names one arms the capture. Which of several RESTARTs a block's event belongs to is the model's
reading (log entry 11). That the Trigger Unit's event, taken after the ARM notice of a later CAPTURE-ARM,
freezes the unit all the same is the model's choice (log entry 32). An alert condition joins the pending set
at the event that raises it (the model's reading, log entry 8). -/
def Obligations.BlocksRestart : Prop :=
  ∀ (s : State) (before : List Restarting) (x : Restarting) (rest : List Restarting), s.powered = true →
    s.agent.restarts = before ++ x :: rest →
    let marked := fun y : Restarting => s.withAgent { s.agent with restarts := before ++ y :: rest }
    let first := fun owes : Restarting → Bool => owes x = true ∧ ∀ y ∈ before, owes y = false
    (∀ p, first (fun y => match p with | .U => y.egressU | .D => y.egressD) →
      exec (.egressRestart p) s = .next ((marked
          (match p with | .U => { x with egressU := false } | .D => { x with egressD := false })).onPort p
        fun y =>
          { y with
            transit := [], passover := 0
            reply := (y.reply.filter fun f => 0 < f.survives).map fun f =>
              { f with survives := f.survives - 1 }
            transitDropDown := bumpBy y.transitDropDown y.transit.length
            replyLost := bumpBy y.replyLost (y.reply.filter fun f => f.survives = 0).length })) ∧
    (first (·.classifier) →
      exec .classifierRestart s = .next ((marked { x with classifier := false }).withClassifier
        { s.classifier with nodeMap := [], nodeState := [] })) ∧
    (first (·.resolver) → Cells.Wf Window.atPor s.resolver.windows →
      ∃ y : Resolver, y.tuning = s.resolver.tuning ∧ y.pins = s.resolver.pins ∧
        (∀ w, w ≤ 3 → y.window w = { s.resolver.window w with enabled := false }) ∧
        exec .resolverRestart s = .next ((marked { x with resolver := false }).withResolver y)) ∧
    (first (·.trigger) →
      exec .triggerRestart s = .next ((marked { x with trigger := false }).withTrigger
        { s.trigger with state := .frozen, queue := [] })) ∧
    (first (·.capture) → CaptureOk s.capture → Cells.Wf none s.capture.ring →
      let t := marked { x with capture := false }
      let stopped := fun w : Capture =>
        (t.withTrigger { s.trigger with notices := s.trigger.notices ++ [.stop] }).withCapture
          { w with state := .stopped, stopReason := .restart }
      (s.capture.state = .idle ∨ s.capture.state = .stopped → exec .captureRestart s = .next t) ∧
      (s.capture.state = .full → exec .captureRestart s = .next (stopped s.capture)) ∧
      (s.capture.state = .armed →
        ∃ w, RecordWritten s.capture (stampNow s) (.stop .restart) w ∧
          exec .captureRestart s = .next (stopped w))) ∧
    (first (·.timeBase) →
      exec .timeBaseRestart s = .next ((marked { x with timeBase := false }).withTime
        { s.time with timeMaster := s.agent.profile.timeMaster })) ∧
    (before = [] → x = ⟨false, false, false, false, false, false, false⟩ → CaptureOk s.capture →
      Cells.Wf none s.capture.ring →
      let t := s.withAgent { s.agent with restarts := rest }
      let arms := s.agent.profile.autostart = true ∧
        (s.capture.state = .idle ∨ s.capture.state = .stopped) ∧
        (s.capture.mode = .wrap ∨ s.capture.unread < 1022)
      (¬ arms → exec .autostart s = .next t) ∧
      (arms → ∃ v, ArmedWith 0 t v ∧ exec .autostart s = .next v))

/-- R27, R55, R70, R130, R149, R172 to R174, R192: at a POR the persistent state of the eleven store pages is
as it was, every other part takes its POR value, the profile is loaded, the Time Base and the Capture Unit
take its time master and default mode, and its autostart arms the capture. A loss of power keeps the
persistent state of the store, and what a later POR leaves is what it would have left without the loss. What
the unpowered bridge's other parts hold is not observable (log entry 9). The levels and the time that start-up
reads are operands (log entry 14), and the current alert serial and the model's own counters start at 0 (log
entry 25). -/
def Obligations.PowerOnAndPowerLoss : Prop :=
  ∀ (s : State) (guard : Bool) (strap : BitVec 2) (took : Nat),
    let store := { s.store with engine := none, latch := .none, last := none, guard := guard }
    let load := store.loadProfile strap
    let t : State :=
      { powered := true
        strap := strap
        time := { linkTime := BitVec.ofNat 48 (took / 25), sub := took % 25, synced := false,
                  lossTimer := none, timeMaster := load.1.timeMaster }
        portU := PortState.atPor s.portU.line
        portD := PortState.atPor s.portD.line
        classifier := Classifier.atPor
        resolver := Resolver.atPor
        store := store
        trigger := Trigger.atPor
        capture := Capture.atPor load.1.defaultMode
        agent :=
          { profile := load.1, profileState := load.2, strapRead := strap, session := none, guard := guard,
            cache := [], nextId := 0, dispatched := [], gathers := [], restarts := [],
            alerts :=
              { Alerts.atPor with
                pending := match load.2 with | .rejected _ => 0b1000000#7 | _ => 0 } }
        draws := s.draws
        pending := s.pending }
    (load.1.autostart = false → exec (.por guard strap took) s = .next t) ∧
    (load.1.autostart = true → ∃ v, ArmedWith 0 t v ∧ exec (.por guard strap took) s = .next v) ∧
    (∃ off : State, exec .powerLoss s = .next off ∧ off.powered = false ∧
      off.store = { s.store with engine := none, latch := .none, last := none, guard := false } ∧
      exec (.por guard strap took) off = exec (.por guard strap took) s)

/-! ### Every command and every state -/

/-- A step runs the command at the front of the queue on the state with the queue's rest, whatever the
command; with no command waiting, one microsecond passes at a powered bridge and nothing at all at an
unpowered one. That time passes on an empty queue is the model's choice (log entry 3). -/
def Obligations.StepRunsFrontCommand : Prop :=
  ∀ (s : State) (rest : List Instr),
    (∀ c, step (s.withPending (c :: rest)) = exec c (s.withPending rest)) ∧
    (s.pending = [] →
      (s.powered = true → step s = .next (elapse 25 s)) ∧ (s.powered = false → step s = .next s))

/-- R5, R172, R174: every command ends in a next state, leaves the queue of waiting commands alone, and takes
no free value back; only POR gives power and only POWER_LOSS takes it; and an unpowered bridge takes no event
but those two and the changes of its line conditions. That an event commanded where the state does not allow
it changes nothing, rather than ends the run, is the model's choice (log entry 1). -/
def Obligations.CommandsEndAndKeepTheQueue : Prop :=
  ∀ (c : Instr) (s : State), ∃ t, exec c s = .next t ∧ t.pending = s.pending ∧ s.draws ≤ t.draws ∧
    ((∀ g a n, c ≠ .por g a n) → c ≠ .powerLoss → t.powered = s.powered) ∧
    ((∃ g a n, c = .por g a n) → t.powered = true) ∧ (c = .powerLoss → t.powered = false) ∧
    (s.powered = false → (∀ g a n, c ≠ .por g a n) → c ≠ .powerLoss →
      (∀ p l, c ≠ .lineConditionChange p l) → t = s)

/-- The state right after reset is a legal one: every relation that the invariants below speak of holds. The
levels outside the bridge at reset (log entry 5) and the values the spec does not give (log entry 25) are the
model's choice. -/
def Obligations.ResetStateIsLegal : Prop := LegalState State.reset

/-- Every step keeps every addressed table in its canonical form, and keeps the Trigger Unit within its room:
at most 16 summaries (R89), and none while FROZEN (R87). The canonical form is the model's own. -/
def Obligations.StepsKeepTablesAndTrigger : Prop :=
  ∀ (s t : State), step s = .next t →
    (TablesOk s → TablesOk t) ∧ (TriggerOk s.trigger → TriggerOk t.trigger)

/-- R24, R29, R33, R34: every step keeps both egress sides in order: at most 8 transit frames, a passover
count of at most 3, nothing queued or sent at a LINK-DOWN port, and no frame waiting at an idle transmitter of
a LINK-UP port. -/
def Obligations.StepsKeepEgressSides : Prop :=
  ∀ (s t : State), (∀ p, EgressOk (s.port p)) → step s = .next t → ∀ p, EgressOk (t.port p)

/-- R180: every step keeps the reply room: each reservation is what the requests under way hold, and a Reply
Queue and its reservation never exceed 8 frames together. -/
def Obligations.StepsKeepReplyRoom : Prop :=
  ∀ (s t : State), ReplyRoomOk s → step s = .next t → ReplyRoomOk t

/-- R45, R152, R153, R155: every step keeps the store in order: an operation in flight is a legal one, with
the latch NONE and STORE_GUARD high, and a tuning page is pinned exactly while it is the operation's source. -/
def Obligations.StepsKeepStoreAndPins : Prop :=
  ∀ (s t : State), TablesOk s → StoreOk s → step s = .next t → StoreOk t

/-- R109 to R112, R118 to R121: every step keeps the capture in order: the unread count is the number of steps
from the read cursor to the write cursor, each capture state has the counts its rules leave, and the serials of
the records in the ring rise by one from slot to slot up to the write cursor and on to the next serial, 1
following the largest. -/
def Obligations.StepsKeepCapture : Prop :=
  ∀ (s t : State), CaptureOk s.capture → step s = .next t →
    CaptureOk t.capture ∧
      (Cells.Wf none s.capture.ring → SerialsOk s.capture → SerialsOk t.capture)

/-- R175, R181, R183 to R185, R190, R191: every step keeps the Agent in order: a profile in range, no session
while STORE_GUARD is low, at most four Retry Cache entries with one for each requester, and an alert protocol
whose timer, tries and sets agree. -/
def Obligations.StepsKeepAgent : Prop :=
  ∀ (s t : State), AgentOk s.agent → step s = .next t → AgentOk t.agent
end

