-- ==== Sys2Proof/Laws/Cells.lean ====
section
/-! SUPPORT. The laws of addressed tables: reading after writing, and that every operation keeps the
canonical form. -/

namespace Sys2Proof.Machine

section CellLaws

variable {α : Type} [DecidableEq α] {d : α}

omit [DecidableEq α] in
@[simp] theorem Cells.read_nil (i : Nat) : Cells.read d [] i = d := rfl

omit [DecidableEq α] in
@[simp] theorem Cells.read_cons (k : Nat) (v : α) (m : Cells α) (i : Nat) :
    Cells.read d ((k, v) :: m) i = if k = i then v else Cells.read d m i := rfl

omit [DecidableEq α] in
theorem Cells.wf_nil : Cells.Wf d ([] : Cells α) := by simp [Cells.Wf]

omit [DecidableEq α] in
theorem Cells.wf_cons {k : Nat} {v : α} {m : Cells α} :
    Cells.Wf d ((k, v) :: m) ↔ (∀ e ∈ m, k < e.1) ∧ v ≠ d ∧ Cells.Wf d m := by
  simp only [Cells.Wf, List.pairwise_cons, List.mem_cons, forall_eq_or_imp]
  tauto

omit [DecidableEq α] in
/-- An index below every listed one reads as the unlisted value. -/
theorem Cells.read_below {m : Cells α} {i : Nat} (h : ∀ e ∈ m, i < e.1) : Cells.read d m i = d := by
  induction m with
  | nil => rfl
  | cons e m ih =>
    obtain ⟨k, v⟩ := e
    have hk := h (k, v) (by simp)
    rw [Cells.read_cons, if_neg (by simp at hk; omega)]
    exact ih fun e he => h e (by simp [he])

omit [DecidableEq α] in
/-- An index that reads as anything but the unlisted value is listed. -/
theorem Cells.mem_of_read {m : Cells α} {i : Nat} {v : α} (hv : v ≠ d) (h : Cells.read d m i = v) :
    (i, v) ∈ m := by
  induction m with
  | nil => exact absurd h.symm hv
  | cons e m ih =>
    obtain ⟨k, w⟩ := e
    rw [Cells.read_cons] at h
    split at h
    · next hk => simp [hk, h]
    · exact List.mem_cons_of_mem _ (ih h)

/-- A written index reads as what was written. -/
theorem Cells.read_write_same {m : Cells α} (h : Cells.Wf d m) (i : Nat) (v : α) :
    Cells.read d (Cells.write d m i v) i = v := by
  induction m with
  | nil => by_cases hv : v = d <;> simp [Cells.write, hv]
  | cons e m ih =>
    obtain ⟨k, w⟩ := e
    obtain ⟨hk, -, hm⟩ := Cells.wf_cons.mp h
    rcases Nat.lt_trichotomy i k with hlt | rfl | hgt
    · by_cases hv : v = d
      · have : Cells.read d m i = d := Cells.read_below fun e he => Nat.lt_trans hlt (hk e he)
        simp [Cells.write, hlt, hv, this, Nat.ne_of_gt hlt]
      · simp [Cells.write, hlt, hv]
    · by_cases hv : v = d
      · simp [Cells.write, hv, Cells.read_below hk]
      · simp [Cells.write, hv]
    · simp [Cells.write, Nat.lt_asymm hgt, Nat.ne_of_gt hgt, Nat.ne_of_lt hgt, ih hm]

/-- Another index reads as before. -/
theorem Cells.read_write_other {m : Cells α} (h : Cells.Wf d m) {i j : Nat} (v : α) (hij : j ≠ i) :
    Cells.read d (Cells.write d m i v) j = Cells.read d m j := by
  induction m with
  | nil => by_cases hv : v = d <;> simp [Cells.write, hv, hij.symm]
  | cons e m ih =>
    obtain ⟨k, w⟩ := e
    obtain ⟨hk, -, hm⟩ := Cells.wf_cons.mp h
    rcases Nat.lt_trichotomy i k with hlt | rfl | hgt
    · by_cases hv : v = d <;> simp [Cells.write, hlt, hv, hij.symm]
    · by_cases hv : v = d <;> simp [Cells.write, hv, hij.symm]
    · simp [Cells.write, Nat.lt_asymm hgt, Nat.ne_of_gt hgt, ih hm]

/-- Reading after one write, at any index. -/
theorem Cells.read_write {m : Cells α} (h : Cells.Wf d m) (i j : Nat) (v : α) :
    Cells.read d (Cells.write d m i v) j = if j = i then v else Cells.read d m j := by
  split
  · next hji => rw [hji]; exact Cells.read_write_same h i v
  · next hji => exact Cells.read_write_other h v hji

/-- Every listed index after a write was listed before or is the one written. -/
theorem Cells.mem_write {m : Cells α} {i : Nat} {v : α} {e : Nat × α} (he : e ∈ Cells.write d m i v) :
    e ∈ m ∨ (e = (i, v) ∧ v ≠ d) := by
  induction m with
  | nil =>
    by_cases hv : v = d
    · simp [Cells.write, hv] at he
    · exact .inr ⟨by simpa [Cells.write, hv] using he, hv⟩
  | cons x m ih =>
    obtain ⟨k, w⟩ := x
    rcases Nat.lt_trichotomy i k with hlt | rfl | hgt
    · by_cases hv : v = d
      · exact .inl (by simpa [Cells.write, hlt, hv] using he)
      · simp only [Cells.write, hlt, hv, if_true, if_false, List.mem_cons] at he ⊢
        tauto
    · by_cases hv : v = d
      · exact .inl (by simp [Cells.write, hv] at he; exact List.mem_cons_of_mem _ he)
      · simp [Cells.write, hv] at he
        rcases he with rfl | he
        · exact .inr ⟨rfl, hv⟩
        · exact .inl (List.mem_cons_of_mem _ he)
    · simp only [Cells.write, Nat.lt_asymm hgt, Nat.ne_of_gt hgt, if_false, List.mem_cons] at he ⊢
      rcases he with rfl | he
      · exact .inl (.inl rfl)
      · rcases ih he with h | h
        · exact .inl (.inr h)
        · exact .inr h

/-- A write keeps the canonical form. -/
theorem Cells.wf_write {m : Cells α} (h : Cells.Wf d m) (i : Nat) (v : α) :
    Cells.Wf d (Cells.write d m i v) := by
  induction m with
  | nil =>
    by_cases hv : v = d
    · simpa [Cells.write, hv] using Cells.wf_nil (d := d)
    · simpa [Cells.write, hv] using Cells.wf_cons.mpr ⟨by simp, hv, Cells.wf_nil⟩
  | cons x m ih =>
    obtain ⟨k, w⟩ := x
    obtain ⟨hk, hw, hm⟩ := Cells.wf_cons.mp h
    rcases Nat.lt_trichotomy i k with hlt | rfl | hgt
    · by_cases hv : v = d
      · simpa [Cells.write, hlt, hv] using h
      · simp only [Cells.write, hlt, hv, if_true, if_false]
        refine Cells.wf_cons.mpr ⟨?_, hv, h⟩
        intro e he
        rcases List.mem_cons.mp he with rfl | he
        · exact hlt
        · exact Nat.lt_trans hlt (hk e he)
    · by_cases hv : v = d
      · simpa [Cells.write, hv] using hm
      · simpa [Cells.write, hv] using Cells.wf_cons.mpr ⟨hk, hv, hm⟩
    · simp only [Cells.write, Nat.lt_asymm hgt, Nat.ne_of_gt hgt, if_false]
      refine Cells.wf_cons.mpr ⟨fun e he => ?_, hw, ih hm⟩
      rcases Cells.mem_write he with h' | ⟨rfl, -⟩
      · exact hk e h'
      · exact hgt

/-- A run of writes keeps the canonical form. -/
theorem Cells.wf_writeAll {m : Cells α} (h : Cells.Wf d m) (i : Nat) (vs : List α) :
    Cells.Wf d (Cells.writeAll d m i vs) := by
  induction vs generalizing m i with
  | nil => exact h
  | cons v vs ih => exact ih (Cells.wf_write h i v) (i + 1)

/-- Reading after a run of writes from `i` on. -/
theorem Cells.read_writeAll {m : Cells α} (h : Cells.Wf d m) (i j : Nat) (vs : List α) :
    Cells.read d (Cells.writeAll d m i vs) j
      = if i ≤ j ∧ j < i + vs.length then vs.getD (j - i) d else Cells.read d m j := by
  induction vs generalizing m i with
  | nil => simp [Cells.writeAll]
  | cons v vs ih =>
    rw [Cells.writeAll, ih (Cells.wf_write h i v), Cells.read_write h]
    simp only [List.length_cons]
    rcases Nat.lt_trichotomy j i with hlt | rfl | hgt
    · rw [if_neg (by omega), if_neg (by omega), if_neg (by omega)]
    · rw [if_neg (by omega), if_pos rfl, if_pos (by omega)]
      simp
    · by_cases hj : j < i + 1 + vs.length
      · rw [if_pos (by omega), if_pos (by omega), show j - i = (j - (i + 1)) + 1 by omega]
        simp
      · rw [if_neg (by omega), if_neg (by omega), if_neg (by omega)]

omit [DecidableEq α] in
theorem Cells.wf_filter {m : Cells α} (h : Cells.Wf d m) (q : Nat × α → Bool) :
    Cells.Wf d (m.filter q) :=
  ⟨h.1.filter q, fun e he => h.2 e (List.mem_of_mem_filter he)⟩

/-- Forgetting a value keeps the canonical form. -/
theorem Cells.wf_forget {m : Cells α} (h : Cells.Wf d m) (v : α) : Cells.Wf d (Cells.forget m v) :=
  Cells.wf_filter h _

omit [DecidableEq α] in
/-- Erasing a range keeps the canonical form. -/
theorem Cells.wf_eraseRange {m : Cells α} (h : Cells.Wf d m) (lo hi : Nat) :
    Cells.Wf d (Cells.eraseRange m lo hi) :=
  Cells.wf_filter h _

/-- Reading after a value was forgotten. -/
theorem Cells.read_forget {m : Cells α} (h : Cells.Wf d m) (v : α) (i : Nat) :
    Cells.read d (Cells.forget m v) i = if Cells.read d m i = v then d else Cells.read d m i := by
  induction m with
  | nil => by_cases hv : d = v <;> simp [Cells.forget, hv]
  | cons x m ih =>
    obtain ⟨k, w⟩ := x
    obtain ⟨hk, hw, hm⟩ := Cells.wf_cons.mp h
    have ih' := ih hm
    simp only [Cells.forget] at ih' ⊢
    by_cases hwv : w = v
    · subst hwv
      by_cases hki : k = i
      · subst hki
        have : Cells.read d (m.filter fun e => e.2 ≠ w) k = d :=
          Cells.read_below fun e he => hk e (List.mem_of_mem_filter he)
        simpa using this
      · simpa [hki] using ih'
    · by_cases hki : k = i
      · simp [hwv, hki]
      · simpa [hwv, hki] using ih'

omit [DecidableEq α] in
/-- Reading after a range was erased. -/
theorem Cells.read_eraseRange {m : Cells α} (h : Cells.Wf d m) (lo hi i : Nat) :
    Cells.read d (Cells.eraseRange m lo hi) i = if lo ≤ i ∧ i < hi then d else Cells.read d m i := by
  induction m with
  | nil => simp [Cells.eraseRange]
  | cons x m ih =>
    obtain ⟨k, w⟩ := x
    obtain ⟨hk, hw, hm⟩ := Cells.wf_cons.mp h
    have ih' := ih hm
    simp only [Cells.eraseRange] at ih' ⊢
    by_cases hin : lo ≤ k ∧ k < hi
    · have hf : (decide (k < lo) || decide (hi ≤ k)) = false := by simp; omega
      rw [List.filter_cons_of_neg (by simp [hf]), ih', Cells.read_cons]
      by_cases hki : k = i
      · subst hki; simp [hin]
      · rw [if_neg hki]
    · have hf : (decide (k < lo) || decide (hi ≤ k)) = true := by simp; omega
      rw [List.filter_cons_of_pos (by simpa using hf), Cells.read_cons, ih', Cells.read_cons]
      by_cases hki : k = i
      · subst hki; simp [hin]
      · rw [if_neg hki, if_neg hki]

end CellLaws

end Sys2Proof.Machine
end

