-- ==== Sys2Proof/Laws/State.lean ====
section
/-! SUPPORT. What each update of one part of the state leaves and gives: one lemma per field per update,
so that no proof unfolds a record update. -/

namespace Sys2Proof.Machine

@[simp] theorem State.withTime_powered (s : State) (x : TimeBase) : (s.withTime x).powered = s.powered := rfl
@[simp] theorem State.withTime_strap (s : State) (x : TimeBase) : (s.withTime x).strap = s.strap := rfl
@[simp] theorem State.withTime_time (s : State) (x : TimeBase) : (s.withTime x).time = x := rfl
@[simp] theorem State.withTime_portU (s : State) (x : TimeBase) : (s.withTime x).portU = s.portU := rfl
@[simp] theorem State.withTime_portD (s : State) (x : TimeBase) : (s.withTime x).portD = s.portD := rfl
@[simp] theorem State.withTime_classifier (s : State) (x : TimeBase) : (s.withTime x).classifier = s.classifier := rfl
@[simp] theorem State.withTime_resolver (s : State) (x : TimeBase) : (s.withTime x).resolver = s.resolver := rfl
@[simp] theorem State.withTime_store (s : State) (x : TimeBase) : (s.withTime x).store = s.store := rfl
@[simp] theorem State.withTime_trigger (s : State) (x : TimeBase) : (s.withTime x).trigger = s.trigger := rfl
@[simp] theorem State.withTime_capture (s : State) (x : TimeBase) : (s.withTime x).capture = s.capture := rfl
@[simp] theorem State.withTime_agent (s : State) (x : TimeBase) : (s.withTime x).agent = s.agent := rfl
@[simp] theorem State.withTime_draws (s : State) (x : TimeBase) : (s.withTime x).draws = s.draws := rfl
@[simp] theorem State.withTime_pending (s : State) (x : TimeBase) : (s.withTime x).pending = s.pending := rfl
@[simp] theorem State.withTime_port (s : State) (x : TimeBase) (p : Port) : (s.withTime x).port p = s.port p := by
  cases p <;> rfl
@[simp] theorem State.withTime_self (s : State) : s.withTime s.time = s := rfl
@[simp] theorem State.withTime_twice (s : State) (x y : TimeBase) : (s.withTime x).withTime y = s.withTime y := rfl

@[simp] theorem State.withClassifier_powered (s : State) (x : Classifier) : (s.withClassifier x).powered = s.powered := rfl
@[simp] theorem State.withClassifier_strap (s : State) (x : Classifier) : (s.withClassifier x).strap = s.strap := rfl
@[simp] theorem State.withClassifier_time (s : State) (x : Classifier) : (s.withClassifier x).time = s.time := rfl
@[simp] theorem State.withClassifier_portU (s : State) (x : Classifier) : (s.withClassifier x).portU = s.portU := rfl
@[simp] theorem State.withClassifier_portD (s : State) (x : Classifier) : (s.withClassifier x).portD = s.portD := rfl
@[simp] theorem State.withClassifier_classifier (s : State) (x : Classifier) : (s.withClassifier x).classifier = x := rfl
@[simp] theorem State.withClassifier_resolver (s : State) (x : Classifier) : (s.withClassifier x).resolver = s.resolver := rfl
@[simp] theorem State.withClassifier_store (s : State) (x : Classifier) : (s.withClassifier x).store = s.store := rfl
@[simp] theorem State.withClassifier_trigger (s : State) (x : Classifier) : (s.withClassifier x).trigger = s.trigger := rfl
@[simp] theorem State.withClassifier_capture (s : State) (x : Classifier) : (s.withClassifier x).capture = s.capture := rfl
@[simp] theorem State.withClassifier_agent (s : State) (x : Classifier) : (s.withClassifier x).agent = s.agent := rfl
@[simp] theorem State.withClassifier_draws (s : State) (x : Classifier) : (s.withClassifier x).draws = s.draws := rfl
@[simp] theorem State.withClassifier_pending (s : State) (x : Classifier) : (s.withClassifier x).pending = s.pending := rfl
@[simp] theorem State.withClassifier_port (s : State) (x : Classifier) (p : Port) : (s.withClassifier x).port p = s.port p := by
  cases p <;> rfl
@[simp] theorem State.withClassifier_self (s : State) : s.withClassifier s.classifier = s := rfl
@[simp] theorem State.withClassifier_twice (s : State) (x y : Classifier) : (s.withClassifier x).withClassifier y = s.withClassifier y := rfl

@[simp] theorem State.withResolver_powered (s : State) (x : Resolver) : (s.withResolver x).powered = s.powered := rfl
@[simp] theorem State.withResolver_strap (s : State) (x : Resolver) : (s.withResolver x).strap = s.strap := rfl
@[simp] theorem State.withResolver_time (s : State) (x : Resolver) : (s.withResolver x).time = s.time := rfl
@[simp] theorem State.withResolver_portU (s : State) (x : Resolver) : (s.withResolver x).portU = s.portU := rfl
@[simp] theorem State.withResolver_portD (s : State) (x : Resolver) : (s.withResolver x).portD = s.portD := rfl
@[simp] theorem State.withResolver_classifier (s : State) (x : Resolver) : (s.withResolver x).classifier = s.classifier := rfl
@[simp] theorem State.withResolver_resolver (s : State) (x : Resolver) : (s.withResolver x).resolver = x := rfl
@[simp] theorem State.withResolver_store (s : State) (x : Resolver) : (s.withResolver x).store = s.store := rfl
@[simp] theorem State.withResolver_trigger (s : State) (x : Resolver) : (s.withResolver x).trigger = s.trigger := rfl
@[simp] theorem State.withResolver_capture (s : State) (x : Resolver) : (s.withResolver x).capture = s.capture := rfl
@[simp] theorem State.withResolver_agent (s : State) (x : Resolver) : (s.withResolver x).agent = s.agent := rfl
@[simp] theorem State.withResolver_draws (s : State) (x : Resolver) : (s.withResolver x).draws = s.draws := rfl
@[simp] theorem State.withResolver_pending (s : State) (x : Resolver) : (s.withResolver x).pending = s.pending := rfl
@[simp] theorem State.withResolver_port (s : State) (x : Resolver) (p : Port) : (s.withResolver x).port p = s.port p := by
  cases p <;> rfl
@[simp] theorem State.withResolver_self (s : State) : s.withResolver s.resolver = s := rfl
@[simp] theorem State.withResolver_twice (s : State) (x y : Resolver) : (s.withResolver x).withResolver y = s.withResolver y := rfl

@[simp] theorem State.withStore_powered (s : State) (x : Store) : (s.withStore x).powered = s.powered := rfl
@[simp] theorem State.withStore_strap (s : State) (x : Store) : (s.withStore x).strap = s.strap := rfl
@[simp] theorem State.withStore_time (s : State) (x : Store) : (s.withStore x).time = s.time := rfl
@[simp] theorem State.withStore_portU (s : State) (x : Store) : (s.withStore x).portU = s.portU := rfl
@[simp] theorem State.withStore_portD (s : State) (x : Store) : (s.withStore x).portD = s.portD := rfl
@[simp] theorem State.withStore_classifier (s : State) (x : Store) : (s.withStore x).classifier = s.classifier := rfl
@[simp] theorem State.withStore_resolver (s : State) (x : Store) : (s.withStore x).resolver = s.resolver := rfl
@[simp] theorem State.withStore_store (s : State) (x : Store) : (s.withStore x).store = x := rfl
@[simp] theorem State.withStore_trigger (s : State) (x : Store) : (s.withStore x).trigger = s.trigger := rfl
@[simp] theorem State.withStore_capture (s : State) (x : Store) : (s.withStore x).capture = s.capture := rfl
@[simp] theorem State.withStore_agent (s : State) (x : Store) : (s.withStore x).agent = s.agent := rfl
@[simp] theorem State.withStore_draws (s : State) (x : Store) : (s.withStore x).draws = s.draws := rfl
@[simp] theorem State.withStore_pending (s : State) (x : Store) : (s.withStore x).pending = s.pending := rfl
@[simp] theorem State.withStore_port (s : State) (x : Store) (p : Port) : (s.withStore x).port p = s.port p := by
  cases p <;> rfl
@[simp] theorem State.withStore_self (s : State) : s.withStore s.store = s := rfl
@[simp] theorem State.withStore_twice (s : State) (x y : Store) : (s.withStore x).withStore y = s.withStore y := rfl

@[simp] theorem State.withTrigger_powered (s : State) (x : Trigger) : (s.withTrigger x).powered = s.powered := rfl
@[simp] theorem State.withTrigger_strap (s : State) (x : Trigger) : (s.withTrigger x).strap = s.strap := rfl
@[simp] theorem State.withTrigger_time (s : State) (x : Trigger) : (s.withTrigger x).time = s.time := rfl
@[simp] theorem State.withTrigger_portU (s : State) (x : Trigger) : (s.withTrigger x).portU = s.portU := rfl
@[simp] theorem State.withTrigger_portD (s : State) (x : Trigger) : (s.withTrigger x).portD = s.portD := rfl
@[simp] theorem State.withTrigger_classifier (s : State) (x : Trigger) : (s.withTrigger x).classifier = s.classifier := rfl
@[simp] theorem State.withTrigger_resolver (s : State) (x : Trigger) : (s.withTrigger x).resolver = s.resolver := rfl
@[simp] theorem State.withTrigger_store (s : State) (x : Trigger) : (s.withTrigger x).store = s.store := rfl
@[simp] theorem State.withTrigger_trigger (s : State) (x : Trigger) : (s.withTrigger x).trigger = x := rfl
@[simp] theorem State.withTrigger_capture (s : State) (x : Trigger) : (s.withTrigger x).capture = s.capture := rfl
@[simp] theorem State.withTrigger_agent (s : State) (x : Trigger) : (s.withTrigger x).agent = s.agent := rfl
@[simp] theorem State.withTrigger_draws (s : State) (x : Trigger) : (s.withTrigger x).draws = s.draws := rfl
@[simp] theorem State.withTrigger_pending (s : State) (x : Trigger) : (s.withTrigger x).pending = s.pending := rfl
@[simp] theorem State.withTrigger_port (s : State) (x : Trigger) (p : Port) : (s.withTrigger x).port p = s.port p := by
  cases p <;> rfl
@[simp] theorem State.withTrigger_self (s : State) : s.withTrigger s.trigger = s := rfl
@[simp] theorem State.withTrigger_twice (s : State) (x y : Trigger) : (s.withTrigger x).withTrigger y = s.withTrigger y := rfl

@[simp] theorem State.withCapture_powered (s : State) (x : Capture) : (s.withCapture x).powered = s.powered := rfl
@[simp] theorem State.withCapture_strap (s : State) (x : Capture) : (s.withCapture x).strap = s.strap := rfl
@[simp] theorem State.withCapture_time (s : State) (x : Capture) : (s.withCapture x).time = s.time := rfl
@[simp] theorem State.withCapture_portU (s : State) (x : Capture) : (s.withCapture x).portU = s.portU := rfl
@[simp] theorem State.withCapture_portD (s : State) (x : Capture) : (s.withCapture x).portD = s.portD := rfl
@[simp] theorem State.withCapture_classifier (s : State) (x : Capture) : (s.withCapture x).classifier = s.classifier := rfl
@[simp] theorem State.withCapture_resolver (s : State) (x : Capture) : (s.withCapture x).resolver = s.resolver := rfl
@[simp] theorem State.withCapture_store (s : State) (x : Capture) : (s.withCapture x).store = s.store := rfl
@[simp] theorem State.withCapture_trigger (s : State) (x : Capture) : (s.withCapture x).trigger = s.trigger := rfl
@[simp] theorem State.withCapture_capture (s : State) (x : Capture) : (s.withCapture x).capture = x := rfl
@[simp] theorem State.withCapture_agent (s : State) (x : Capture) : (s.withCapture x).agent = s.agent := rfl
@[simp] theorem State.withCapture_draws (s : State) (x : Capture) : (s.withCapture x).draws = s.draws := rfl
@[simp] theorem State.withCapture_pending (s : State) (x : Capture) : (s.withCapture x).pending = s.pending := rfl
@[simp] theorem State.withCapture_port (s : State) (x : Capture) (p : Port) : (s.withCapture x).port p = s.port p := by
  cases p <;> rfl
@[simp] theorem State.withCapture_self (s : State) : s.withCapture s.capture = s := rfl
@[simp] theorem State.withCapture_twice (s : State) (x y : Capture) : (s.withCapture x).withCapture y = s.withCapture y := rfl

@[simp] theorem State.withAgent_powered (s : State) (x : Agent) : (s.withAgent x).powered = s.powered := rfl
@[simp] theorem State.withAgent_strap (s : State) (x : Agent) : (s.withAgent x).strap = s.strap := rfl
@[simp] theorem State.withAgent_time (s : State) (x : Agent) : (s.withAgent x).time = s.time := rfl
@[simp] theorem State.withAgent_portU (s : State) (x : Agent) : (s.withAgent x).portU = s.portU := rfl
@[simp] theorem State.withAgent_portD (s : State) (x : Agent) : (s.withAgent x).portD = s.portD := rfl
@[simp] theorem State.withAgent_classifier (s : State) (x : Agent) : (s.withAgent x).classifier = s.classifier := rfl
@[simp] theorem State.withAgent_resolver (s : State) (x : Agent) : (s.withAgent x).resolver = s.resolver := rfl
@[simp] theorem State.withAgent_store (s : State) (x : Agent) : (s.withAgent x).store = s.store := rfl
@[simp] theorem State.withAgent_trigger (s : State) (x : Agent) : (s.withAgent x).trigger = s.trigger := rfl
@[simp] theorem State.withAgent_capture (s : State) (x : Agent) : (s.withAgent x).capture = s.capture := rfl
@[simp] theorem State.withAgent_agent (s : State) (x : Agent) : (s.withAgent x).agent = x := rfl
@[simp] theorem State.withAgent_draws (s : State) (x : Agent) : (s.withAgent x).draws = s.draws := rfl
@[simp] theorem State.withAgent_pending (s : State) (x : Agent) : (s.withAgent x).pending = s.pending := rfl
@[simp] theorem State.withAgent_port (s : State) (x : Agent) (p : Port) : (s.withAgent x).port p = s.port p := by
  cases p <;> rfl
@[simp] theorem State.withAgent_self (s : State) : s.withAgent s.agent = s := rfl
@[simp] theorem State.withAgent_twice (s : State) (x y : Agent) : (s.withAgent x).withAgent y = s.withAgent y := rfl

@[simp] theorem State.withStrap_powered (s : State) (x : BitVec 2) : (s.withStrap x).powered = s.powered := rfl
@[simp] theorem State.withStrap_strap (s : State) (x : BitVec 2) : (s.withStrap x).strap = x := rfl
@[simp] theorem State.withStrap_time (s : State) (x : BitVec 2) : (s.withStrap x).time = s.time := rfl
@[simp] theorem State.withStrap_portU (s : State) (x : BitVec 2) : (s.withStrap x).portU = s.portU := rfl
@[simp] theorem State.withStrap_portD (s : State) (x : BitVec 2) : (s.withStrap x).portD = s.portD := rfl
@[simp] theorem State.withStrap_classifier (s : State) (x : BitVec 2) : (s.withStrap x).classifier = s.classifier := rfl
@[simp] theorem State.withStrap_resolver (s : State) (x : BitVec 2) : (s.withStrap x).resolver = s.resolver := rfl
@[simp] theorem State.withStrap_store (s : State) (x : BitVec 2) : (s.withStrap x).store = s.store := rfl
@[simp] theorem State.withStrap_trigger (s : State) (x : BitVec 2) : (s.withStrap x).trigger = s.trigger := rfl
@[simp] theorem State.withStrap_capture (s : State) (x : BitVec 2) : (s.withStrap x).capture = s.capture := rfl
@[simp] theorem State.withStrap_agent (s : State) (x : BitVec 2) : (s.withStrap x).agent = s.agent := rfl
@[simp] theorem State.withStrap_draws (s : State) (x : BitVec 2) : (s.withStrap x).draws = s.draws := rfl
@[simp] theorem State.withStrap_pending (s : State) (x : BitVec 2) : (s.withStrap x).pending = s.pending := rfl
@[simp] theorem State.withStrap_port (s : State) (x : BitVec 2) (p : Port) : (s.withStrap x).port p = s.port p := by
  cases p <;> rfl
@[simp] theorem State.withStrap_self (s : State) : s.withStrap s.strap = s := rfl
@[simp] theorem State.withStrap_twice (s : State) (x y : BitVec 2) : (s.withStrap x).withStrap y = s.withStrap y := rfl

@[simp] theorem State.withDraws_powered (s : State) (x : Nat) : (s.withDraws x).powered = s.powered := rfl
@[simp] theorem State.withDraws_strap (s : State) (x : Nat) : (s.withDraws x).strap = s.strap := rfl
@[simp] theorem State.withDraws_time (s : State) (x : Nat) : (s.withDraws x).time = s.time := rfl
@[simp] theorem State.withDraws_portU (s : State) (x : Nat) : (s.withDraws x).portU = s.portU := rfl
@[simp] theorem State.withDraws_portD (s : State) (x : Nat) : (s.withDraws x).portD = s.portD := rfl
@[simp] theorem State.withDraws_classifier (s : State) (x : Nat) : (s.withDraws x).classifier = s.classifier := rfl
@[simp] theorem State.withDraws_resolver (s : State) (x : Nat) : (s.withDraws x).resolver = s.resolver := rfl
@[simp] theorem State.withDraws_store (s : State) (x : Nat) : (s.withDraws x).store = s.store := rfl
@[simp] theorem State.withDraws_trigger (s : State) (x : Nat) : (s.withDraws x).trigger = s.trigger := rfl
@[simp] theorem State.withDraws_capture (s : State) (x : Nat) : (s.withDraws x).capture = s.capture := rfl
@[simp] theorem State.withDraws_agent (s : State) (x : Nat) : (s.withDraws x).agent = s.agent := rfl
@[simp] theorem State.withDraws_draws (s : State) (x : Nat) : (s.withDraws x).draws = x := rfl
@[simp] theorem State.withDraws_pending (s : State) (x : Nat) : (s.withDraws x).pending = s.pending := rfl
@[simp] theorem State.withDraws_port (s : State) (x : Nat) (p : Port) : (s.withDraws x).port p = s.port p := by
  cases p <;> rfl
@[simp] theorem State.withDraws_self (s : State) : s.withDraws s.draws = s := rfl
@[simp] theorem State.withDraws_twice (s : State) (x y : Nat) : (s.withDraws x).withDraws y = s.withDraws y := rfl

@[simp] theorem State.withPending_powered (s : State) (x : List Instr) : (s.withPending x).powered = s.powered := rfl
@[simp] theorem State.withPending_strap (s : State) (x : List Instr) : (s.withPending x).strap = s.strap := rfl
@[simp] theorem State.withPending_time (s : State) (x : List Instr) : (s.withPending x).time = s.time := rfl
@[simp] theorem State.withPending_portU (s : State) (x : List Instr) : (s.withPending x).portU = s.portU := rfl
@[simp] theorem State.withPending_portD (s : State) (x : List Instr) : (s.withPending x).portD = s.portD := rfl
@[simp] theorem State.withPending_classifier (s : State) (x : List Instr) : (s.withPending x).classifier = s.classifier := rfl
@[simp] theorem State.withPending_resolver (s : State) (x : List Instr) : (s.withPending x).resolver = s.resolver := rfl
@[simp] theorem State.withPending_store (s : State) (x : List Instr) : (s.withPending x).store = s.store := rfl
@[simp] theorem State.withPending_trigger (s : State) (x : List Instr) : (s.withPending x).trigger = s.trigger := rfl
@[simp] theorem State.withPending_capture (s : State) (x : List Instr) : (s.withPending x).capture = s.capture := rfl
@[simp] theorem State.withPending_agent (s : State) (x : List Instr) : (s.withPending x).agent = s.agent := rfl
@[simp] theorem State.withPending_draws (s : State) (x : List Instr) : (s.withPending x).draws = s.draws := rfl
@[simp] theorem State.withPending_pending (s : State) (x : List Instr) : (s.withPending x).pending = x := rfl
@[simp] theorem State.withPending_port (s : State) (x : List Instr) (p : Port) : (s.withPending x).port p = s.port p := by
  cases p <;> rfl
@[simp] theorem State.withPending_self (s : State) : s.withPending s.pending = s := rfl
@[simp] theorem State.withPending_twice (s : State) (x y : List Instr) : (s.withPending x).withPending y = s.withPending y := rfl

@[simp] theorem State.withPort_powered (s : State) (p : Port) (x : PortState) : (s.withPort p x).powered = s.powered := by
  cases p <;> rfl
@[simp] theorem State.onPort_powered (s : State) (p : Port) (f : PortState → PortState) :
    (s.onPort p f).powered = s.powered := by
  cases p <;> rfl
@[simp] theorem State.withPort_strap (s : State) (p : Port) (x : PortState) : (s.withPort p x).strap = s.strap := by
  cases p <;> rfl
@[simp] theorem State.onPort_strap (s : State) (p : Port) (f : PortState → PortState) :
    (s.onPort p f).strap = s.strap := by
  cases p <;> rfl
@[simp] theorem State.withPort_time (s : State) (p : Port) (x : PortState) : (s.withPort p x).time = s.time := by
  cases p <;> rfl
@[simp] theorem State.onPort_time (s : State) (p : Port) (f : PortState → PortState) :
    (s.onPort p f).time = s.time := by
  cases p <;> rfl
@[simp] theorem State.withPort_classifier (s : State) (p : Port) (x : PortState) : (s.withPort p x).classifier = s.classifier := by
  cases p <;> rfl
@[simp] theorem State.onPort_classifier (s : State) (p : Port) (f : PortState → PortState) :
    (s.onPort p f).classifier = s.classifier := by
  cases p <;> rfl
@[simp] theorem State.withPort_resolver (s : State) (p : Port) (x : PortState) : (s.withPort p x).resolver = s.resolver := by
  cases p <;> rfl
@[simp] theorem State.onPort_resolver (s : State) (p : Port) (f : PortState → PortState) :
    (s.onPort p f).resolver = s.resolver := by
  cases p <;> rfl
@[simp] theorem State.withPort_store (s : State) (p : Port) (x : PortState) : (s.withPort p x).store = s.store := by
  cases p <;> rfl
@[simp] theorem State.onPort_store (s : State) (p : Port) (f : PortState → PortState) :
    (s.onPort p f).store = s.store := by
  cases p <;> rfl
@[simp] theorem State.withPort_trigger (s : State) (p : Port) (x : PortState) : (s.withPort p x).trigger = s.trigger := by
  cases p <;> rfl
@[simp] theorem State.onPort_trigger (s : State) (p : Port) (f : PortState → PortState) :
    (s.onPort p f).trigger = s.trigger := by
  cases p <;> rfl
@[simp] theorem State.withPort_capture (s : State) (p : Port) (x : PortState) : (s.withPort p x).capture = s.capture := by
  cases p <;> rfl
@[simp] theorem State.onPort_capture (s : State) (p : Port) (f : PortState → PortState) :
    (s.onPort p f).capture = s.capture := by
  cases p <;> rfl
@[simp] theorem State.withPort_agent (s : State) (p : Port) (x : PortState) : (s.withPort p x).agent = s.agent := by
  cases p <;> rfl
@[simp] theorem State.onPort_agent (s : State) (p : Port) (f : PortState → PortState) :
    (s.onPort p f).agent = s.agent := by
  cases p <;> rfl
@[simp] theorem State.withPort_draws (s : State) (p : Port) (x : PortState) : (s.withPort p x).draws = s.draws := by
  cases p <;> rfl
@[simp] theorem State.onPort_draws (s : State) (p : Port) (f : PortState → PortState) :
    (s.onPort p f).draws = s.draws := by
  cases p <;> rfl
@[simp] theorem State.withPort_pending (s : State) (p : Port) (x : PortState) : (s.withPort p x).pending = s.pending := by
  cases p <;> rfl
@[simp] theorem State.onPort_pending (s : State) (p : Port) (f : PortState → PortState) :
    (s.onPort p f).pending = s.pending := by
  cases p <;> rfl

@[simp] theorem State.port_U (s : State) : s.port .U = s.portU := rfl
@[simp] theorem State.port_D (s : State) : s.port .D = s.portD := rfl
@[simp] theorem State.withPort_U (s : State) (x : PortState) : s.withPort .U x = { s with portU := x } := rfl
@[simp] theorem State.withPort_D (s : State) (x : PortState) : s.withPort .D x = { s with portD := x } := rfl

theorem State.withPort_port_self (s : State) (p : Port) (x : PortState) : (s.withPort p x).port p = x := by
  cases p <;> rfl

theorem State.withPort_port_other (s : State) {p q : Port} (x : PortState) (h : q ≠ p) :
    (s.withPort p x).port q = s.port q := by
  cases p <;> cases q <;> first | rfl | exact absurd rfl h

theorem State.onPort_port_self (s : State) (p : Port) (f : PortState → PortState) :
    (s.onPort p f).port p = f (s.port p) := by
  cases p <;> rfl

theorem State.onPort_port_other (s : State) {p q : Port} (f : PortState → PortState) (h : q ≠ p) :
    (s.onPort p f).port q = s.port q := by
  cases p <;> cases q <;> first | rfl | exact absurd rfl h

/-- A port after a change of one port: the changed one, or as it was. -/
theorem State.onPort_port (s : State) (p q : Port) (f : PortState → PortState) :
    (s.onPort p f).port q = if q = p then f (s.port p) else s.port q := by
  cases p <;> cases q <;> rfl

/-- Two states agree when all their parts do. -/
theorem State.ext_parts {s t : State} (h1 : s.powered = t.powered) (h2 : s.strap = t.strap)
    (h3 : s.time = t.time) (h4 : s.portU = t.portU) (h5 : s.portD = t.portD)
    (h6 : s.classifier = t.classifier) (h7 : s.resolver = t.resolver) (h8 : s.store = t.store)
    (h9 : s.trigger = t.trigger) (h10 : s.capture = t.capture) (h11 : s.agent = t.agent)
    (h12 : s.draws = t.draws) (h13 : s.pending = t.pending) : s = t := by
  cases s; cases t; simp_all

end Sys2Proof.Machine
end

