-- ==== Sys2Proof/Laws/Ops.lean ====
section
/-! SUPPORT. What each shared operation can do, said once: which parts of the state it leaves, and what it
gives the parts it changes. Later proofs cite these and do not unfold the operations. -/

namespace Sys2Proof.Machine

/-! ### Power and time -/

@[simp] theorem State.ifPowered_on {s : State} (h : s.powered = true) (f : State → State) :
    s.ifPowered f = f s := by simp [State.ifPowered, h]

@[simp] theorem State.ifPowered_off {s : State} (h : s.powered = false) (f : State → State) :
    s.ifPowered f = s := by simp [State.ifPowered, h]

/-- What holds of a state and of what an event makes of it holds of the event at either power. -/
theorem State.ifPowered_keeps {P : State → Prop} {s : State} {f : State → State} (h : P s) (hf : P (f s)) :
    P (s.ifPowered f) := by
  unfold State.ifPowered; split <;> assumption

@[simp] theorem elapse_powered (n : Nat) (s : State) : (elapse n s).powered = s.powered := rfl
@[simp] theorem elapse_strap (n : Nat) (s : State) : (elapse n s).strap = s.strap := rfl
@[simp] theorem elapse_classifier (n : Nat) (s : State) : (elapse n s).classifier = s.classifier := rfl
@[simp] theorem elapse_resolver (n : Nat) (s : State) : (elapse n s).resolver = s.resolver := rfl
@[simp] theorem elapse_trigger (n : Nat) (s : State) : (elapse n s).trigger = s.trigger := rfl
@[simp] theorem elapse_capture (n : Nat) (s : State) : (elapse n s).capture = s.capture := rfl
@[simp] theorem elapse_draws (n : Nat) (s : State) : (elapse n s).draws = s.draws := rfl
@[simp] theorem elapse_pending (n : Nat) (s : State) : (elapse n s).pending = s.pending := rfl
@[simp] theorem elapse_time (n : Nat) (s : State) : (elapse n s).time = elapseTime n s.time := rfl
@[simp] theorem elapse_portU (n : Nat) (s : State) : (elapse n s).portU = elapsePort n s.portU := rfl
@[simp] theorem elapse_portD (n : Nat) (s : State) : (elapse n s).portD = elapsePort n s.portD := rfl
@[simp] theorem elapse_store (n : Nat) (s : State) : (elapse n s).store = elapseStore n s.store := rfl
@[simp] theorem elapse_agent (n : Nat) (s : State) : (elapse n s).agent = elapseAgent n s.agent := rfl

theorem elapse_port (n : Nat) (s : State) (p : Port) : (elapse n s).port p = elapsePort n (s.port p) := by
  cases p <;> rfl

/-- No time passing changes nothing. -/
theorem elapse_zero {s : State} (h : s.time.sub < 25) : elapse 0 s = s := by
  obtain ⟨po, st, ti, pu, pd, cl, re, sto, tr, ca, ag, dr, pe⟩ := s
  obtain ⟨lt, sub, sy, lo, tm⟩ := ti
  simp only at h
  have h1 : sub / 25 = 0 := Nat.div_eq_of_lt h
  have h2 : sub % 25 = sub := Nat.mod_eq_of_lt h
  have hrt : ∀ t : Option Nat, runTimer 0 t = t := fun t => by cases t <;> rfl
  have hs : ∀ x : Option Sending, x.map (fun y => { y with left := y.left - 0 }) = x := fun x => by
    cases x <;> rfl
  have ho : ∀ x : Option Operation, x.map (fun y => { y with left := y.left - 0 }) = x := fun x => by
    cases x <;> rfl
  have he : ∀ x : Option Session, x.map (fun y => { y with left := y.left - 0 }) = x := fun x => by
    cases x <;> rfl
  simp [elapse, elapseTime, elapsePort, elapseStore, elapseAgent, Config.bitsPerMicro, h1, h2, hrt]

/-! ### Alerts and free values -/

@[simp] theorem raise_powered (c : AlertCond) (s : State) : (raise c s).powered = s.powered := rfl
@[simp] theorem raise_strap (c : AlertCond) (s : State) : (raise c s).strap = s.strap := rfl
@[simp] theorem raise_time (c : AlertCond) (s : State) : (raise c s).time = s.time := rfl
@[simp] theorem raise_portU (c : AlertCond) (s : State) : (raise c s).portU = s.portU := rfl
@[simp] theorem raise_portD (c : AlertCond) (s : State) : (raise c s).portD = s.portD := rfl
@[simp] theorem raise_classifier (c : AlertCond) (s : State) : (raise c s).classifier = s.classifier := rfl
@[simp] theorem raise_resolver (c : AlertCond) (s : State) : (raise c s).resolver = s.resolver := rfl
@[simp] theorem raise_store (c : AlertCond) (s : State) : (raise c s).store = s.store := rfl
@[simp] theorem raise_trigger (c : AlertCond) (s : State) : (raise c s).trigger = s.trigger := rfl
@[simp] theorem raise_capture (c : AlertCond) (s : State) : (raise c s).capture = s.capture := rfl
@[simp] theorem raise_draws (c : AlertCond) (s : State) : (raise c s).draws = s.draws := rfl
@[simp] theorem raise_pending (c : AlertCond) (s : State) : (raise c s).pending = s.pending := rfl
@[simp] theorem raise_agent (c : AlertCond) (s : State) : (raise c s).agent = s.agent.raised c := rfl

theorem raise_port (c : AlertCond) (s : State) (p : Port) : (raise c s).port p = s.port p := by cases p <;> rfl

@[simp] theorem Agent.raised_pending (c : AlertCond) (a : Agent) :
    (a.raised c).alerts.pending = a.alerts.pending ||| c.single := rfl
@[simp] theorem Agent.raised_outstanding (c : AlertCond) (a : Agent) :
    (a.raised c).alerts.outstanding = a.alerts.outstanding := rfl
@[simp] theorem Agent.raised_session (c : AlertCond) (a : Agent) : (a.raised c).session = a.session := rfl
@[simp] theorem Agent.raised_profile (c : AlertCond) (a : Agent) : (a.raised c).profile = a.profile := rfl
@[simp] theorem Agent.raised_dispatched (c : AlertCond) (a : Agent) :
    (a.raised c).dispatched = a.dispatched := rfl
@[simp] theorem Agent.raised_gathers (c : AlertCond) (a : Agent) : (a.raised c).gathers = a.gathers := rfl
@[simp] theorem Agent.raised_cache (c : AlertCond) (a : Agent) : (a.raised c).cache = a.cache := rfl

/-! ### The egress side -/

/-- A choice that the Arbiter is not to make changes nothing (R28). -/
theorem PortState.arbitrate_waits {x : PortState} (h : x.link = .down ∨ x.sending ≠ none) : x.arbitrate = x := by
  unfold PortState.arbitrate
  rw [if_neg]
  rintro ⟨h1, h2⟩
  rcases h with h | h
  · rw [h1] at h; exact absurd h (by decide)
  · exact h h2

/-- A frame placed on the Reply Queue of a LINK-DOWN port is lost and counted (R27). -/
theorem PortState.place_down {x : PortState} (h : x.link = .down) (r : Reply) :
    x.place r = { x with replyLost := bump x.replyLost } := by simp [PortState.place, h]

/-- A frame placed on the Reply Queue of a LINK-UP port that sends joins the tail (R27). -/
theorem PortState.place_sending {x : PortState} (h : x.link = .up) (hs : x.sending ≠ none) (r : Reply) :
    x.place r = { x with reply := x.reply ++ [r] } := by
  simp only [PortState.place, h]
  exact PortState.arbitrate_waits (.inr hs)

/-- What a choice leaves of a port (R29): everything but the queues, the transmission and the passover
count. -/
theorem PortState.choice_frame (x : PortState) :
    ∃ tr re se pa, x.choice = { x with transit := tr, reply := re, sending := se, passover := pa } := by
  unfold PortState.choice
  split
  · exact ⟨_, _, _, _, rfl⟩
  · exact ⟨_, _, _, _, rfl⟩
  · exact ⟨_, _, _, _, rfl⟩
  · split <;> exact ⟨_, _, _, _, rfl⟩

/-- The same of an arbitration that may make no choice. -/
theorem PortState.arbitrate_frame (x : PortState) :
    ∃ tr re se pa, x.arbitrate = { x with transit := tr, reply := re, sending := se, passover := pa } := by
  unfold PortState.arbitrate
  split
  · exact x.choice_frame
  · exact ⟨_, _, _, _, rfl⟩

/-- What placing a reply leaves of a port (R27). -/
theorem PortState.place_frame (x : PortState) (r : Reply) :
    ∃ tr re se pa lo, x.place r
      = { x with transit := tr, reply := re, sending := se, passover := pa, replyLost := lo } := by
  unfold PortState.place
  split
  · exact ⟨_, _, _, _, _, rfl⟩
  · obtain ⟨tr, re, se, pa, h⟩ := PortState.arbitrate_frame { x with reply := x.reply ++ [r] }
    exact ⟨tr, re, se, pa, x.replyLost, h⟩

/-- What placing replies leaves of a port (R27). -/
theorem PortState.placeAll_frame (rs : List Reply) (x : PortState) :
    ∃ tr re se pa lo, x.placeAll rs
      = { x with transit := tr, reply := re, sending := se, passover := pa, replyLost := lo } := by
  induction rs generalizing x with
  | nil => exact ⟨_, _, _, _, _, rfl⟩
  | cons r rs ih =>
    obtain ⟨tr, re, se, pa, lo, h⟩ := x.place_frame r
    obtain ⟨tr', re', se', pa', lo', h'⟩ := ih (x.place r)
    refine ⟨tr', re', se', pa', lo', ?_⟩
    rw [h] at h'
    simpa [PortState.placeAll, h] using h'

/-! ### Answers and dispatch -/

/-- The Agent after an answer: only the Retry Cache changes (R182). -/
theorem answer_agent (r : Request) (e h : Nat) (ps : List (List Byte)) (s : State) :
    (answer r e h ps s).agent
      = { s.agent with cache := cacheFill e (ps.map (s.agent.buildReply r)) s.agent.cache } := rfl

/-- The arrival port after an answer (R180). -/
theorem answer_port_self (r : Request) (e h : Nat) (ps : List (List Byte)) (s : State) :
    (answer r e h ps s).port r.port
      = PortState.placeAll (plainReplies (ps.map (s.agent.buildReply r)))
          { s.port r.port with reservation := (s.port r.port).reservation - h } := by
  simp [answer, State.onPort_port_self]

/-- The other port after an answer. -/
theorem answer_port_other (r : Request) (e h : Nat) (ps : List (List Byte)) (s : State) {q : Port}
    (hq : q ≠ r.port) : (answer r e h ps s).port q = s.port q := by
  simp [answer, State.onPort_port_other _ _ hq]

@[simp] theorem answer_powered (r : Request) (e h : Nat) (ps : List (List Byte)) (s : State) :
    (answer r e h ps s).powered = s.powered := by simp [answer]
@[simp] theorem answer_strap (r : Request) (e h : Nat) (ps : List (List Byte)) (s : State) :
    (answer r e h ps s).strap = s.strap := by simp [answer]
@[simp] theorem answer_time (r : Request) (e h : Nat) (ps : List (List Byte)) (s : State) :
    (answer r e h ps s).time = s.time := by simp [answer]
@[simp] theorem answer_classifier (r : Request) (e h : Nat) (ps : List (List Byte)) (s : State) :
    (answer r e h ps s).classifier = s.classifier := by simp [answer]
@[simp] theorem answer_resolver (r : Request) (e h : Nat) (ps : List (List Byte)) (s : State) :
    (answer r e h ps s).resolver = s.resolver := by simp [answer]
@[simp] theorem answer_store (r : Request) (e h : Nat) (ps : List (List Byte)) (s : State) :
    (answer r e h ps s).store = s.store := by simp [answer]
@[simp] theorem answer_trigger (r : Request) (e h : Nat) (ps : List (List Byte)) (s : State) :
    (answer r e h ps s).trigger = s.trigger := by simp [answer]
@[simp] theorem answer_capture (r : Request) (e h : Nat) (ps : List (List Byte)) (s : State) :
    (answer r e h ps s).capture = s.capture := by simp [answer]
@[simp] theorem answer_draws (r : Request) (e h : Nat) (ps : List (List Byte)) (s : State) :
    (answer r e h ps s).draws = s.draws := by simp [answer]
@[simp] theorem answer_pending (r : Request) (e h : Nat) (ps : List (List Byte)) (s : State) :
    (answer r e h ps s).pending = s.pending := by simp [answer]

@[simp] theorem placeFrames_powered (p : Port) (fs : List Frame) (s : State) :
    (placeFrames p fs s).powered = s.powered := by simp [placeFrames]
@[simp] theorem placeFrames_strap (p : Port) (fs : List Frame) (s : State) :
    (placeFrames p fs s).strap = s.strap := by simp [placeFrames]
@[simp] theorem placeFrames_time (p : Port) (fs : List Frame) (s : State) :
    (placeFrames p fs s).time = s.time := by simp [placeFrames]
@[simp] theorem placeFrames_classifier (p : Port) (fs : List Frame) (s : State) :
    (placeFrames p fs s).classifier = s.classifier := by simp [placeFrames]
@[simp] theorem placeFrames_resolver (p : Port) (fs : List Frame) (s : State) :
    (placeFrames p fs s).resolver = s.resolver := by simp [placeFrames]
@[simp] theorem placeFrames_store (p : Port) (fs : List Frame) (s : State) :
    (placeFrames p fs s).store = s.store := by simp [placeFrames]
@[simp] theorem placeFrames_trigger (p : Port) (fs : List Frame) (s : State) :
    (placeFrames p fs s).trigger = s.trigger := by simp [placeFrames]
@[simp] theorem placeFrames_capture (p : Port) (fs : List Frame) (s : State) :
    (placeFrames p fs s).capture = s.capture := by simp [placeFrames]
@[simp] theorem placeFrames_draws (p : Port) (fs : List Frame) (s : State) :
    (placeFrames p fs s).draws = s.draws := by simp [placeFrames]
@[simp] theorem placeFrames_pending (p : Port) (fs : List Frame) (s : State) :
    (placeFrames p fs s).pending = s.pending := by simp [placeFrames]
@[simp] theorem placeFrames_agent (p : Port) (fs : List Frame) (s : State) :
    (placeFrames p fs s).agent = s.agent := by simp [placeFrames]

@[simp] theorem Agent.takeNext_session (a : Agent) (b : Block) : (a.takeNext b).session = a.session := rfl
@[simp] theorem Agent.takeNext_profile (a : Agent) (b : Block) : (a.takeNext b).profile = a.profile := rfl
@[simp] theorem Agent.takeNext_cache (a : Agent) (b : Block) : (a.takeNext b).cache = a.cache := rfl
@[simp] theorem Agent.takeNext_alerts (a : Agent) (b : Block) : (a.takeNext b).alerts = a.alerts := rfl
@[simp] theorem Agent.takeNext_gathers (a : Agent) (b : Block) : (a.takeNext b).gathers = a.gathers := rfl

/-- The event of a request at its owner when the request is next there (R179). -/
theorem ownerEvent_takes {b : Block} {k : ReqKind} {d : Dispatch} {s : State}
    (carry : Dispatch → State → State × List (List Byte)) (h : s.agent.nextFor b = some d)
    (hg : d.gather = none) (hk : d.request.kind = some k) :
    ownerEvent b k carry s
      = answer d.request d.entry d.held (carry d (s.withAgent (s.agent.takeNext b))).2
          (carry d (s.withAgent (s.agent.takeNext b))).1 := by
  simp [ownerEvent, h, hg, hk]

/-- The event of a request at its owner changes nothing when no such request is next there. -/
theorem ownerEvent_waits {b : Block} {k : ReqKind} {s : State}
    (carry : Dispatch → State → State × List (List Byte))
    (h : ∀ d, s.agent.nextFor b = some d → ¬ (d.gather = none ∧ d.request.kind = some k)) :
    ownerEvent b k carry s = s := by
  unfold ownerEvent
  split
  · rfl
  · next d hd => rw [if_neg (h d hd)]

/-- What the event of a request at its owner can do: nothing, or the request is carried out and answered. -/
theorem ownerEvent_cases (b : Block) (k : ReqKind) (carry : Dispatch → State → State × List (List Byte))
    (s : State) :
    ownerEvent b k carry s = s ∨
      ∃ d, s.agent.nextFor b = some d ∧ d.gather = none ∧ d.request.kind = some k ∧
        ownerEvent b k carry s
          = answer d.request d.entry d.held (carry d (s.withAgent (s.agent.takeNext b))).2
              (carry d (s.withAgent (s.agent.takeNext b))).1 := by
  by_cases h : ∃ d, s.agent.nextFor b = some d ∧ d.gather = none ∧ d.request.kind = some k
  · obtain ⟨d, h1, h2, h3⟩ := h
    exact .inr ⟨d, h1, h2, h3, ownerEvent_takes carry h1 h2 h3⟩
  · refine .inl (ownerEvent_waits carry fun d hd hh => h ⟨d, hd, hh.1, hh.2⟩)

/-- What the event of a part at a block can do: nothing, or the part is taken and delivered (R187, R188). -/
theorem partEvent_cases (b : Block) (ofKind : GatherKind → Bool)
    (f : GatherKind → State → State × List Byte) (s : State) :
    partEvent b ofKind f s = s ∨
      ∃ d id g, s.agent.nextFor b = some d ∧ d.gather = some id ∧ s.agent.gather id = some g ∧
        ofKind g.kind = true ∧
        partEvent b ofKind f s
          = deliverPart g b (f g.kind (s.withAgent (s.agent.takeNext b))).2
              (f g.kind (s.withAgent (s.agent.takeNext b))).1 := by
  unfold partEvent
  split
  · exact .inl rfl
  · next d hd =>
    split
    · exact .inl rfl
    · next id hid =>
      split
      · exact .inl rfl
      · next g hg =>
        split
        · next hk => exact .inr ⟨d, id, g, hd, hid, hg, hk, rfl⟩
        · exact .inl rfl

/-- A part that is not a gathering's last is kept (R187, R188). -/
theorem deliverPart_more {g : Gather} {b : Block} (h : g.waiting.erase b ≠ []) (bytes : List Byte) (s : State) :
    deliverPart g b bytes s = s.withAgent { s.agent with
      gathers := s.agent.gathers.map fun x => if x.id == g.id then g.give b bytes else x } := if_neg h

/-- The last part of a gathering has its reply placed (R187, R188). -/
theorem deliverPart_last {g : Gather} {b : Block} (h : g.waiting.erase b = []) (bytes : List Byte) (s : State) :
    deliverPart g b bytes s = answer g.request g.entry g.held (g.give b bytes).payloads
      (s.withAgent { s.agent with gathers := s.agent.gathers.filter fun x => x.id != g.id }) := if_pos h

/-- What a RESTART event at a block can do: nothing, or its mark is made and its act carried out (R194). -/
theorem restartEvent_cases (due : Restarting → Bool) (mark : Restarting → Restarting) (act : State → State)
    (s : State) :
    restartEvent due mark act s = s ∨
      ∃ rs, markFirst due mark s.agent.restarts = some rs ∧
        restartEvent due mark act s = act (s.withAgent { s.agent with restarts := rs }) := by
  unfold restartEvent
  split
  · exact .inl rfl
  · next rs h => exact .inr ⟨rs, h, rfl⟩

/-! ### The store -/


@[simp] theorem endOperation_powered (o : Operation) (e : Ending) (s : State) : (endOperation o e s).powered = s.powered := rfl
@[simp] theorem endOperation_strap (o : Operation) (e : Ending) (s : State) : (endOperation o e s).strap = s.strap := rfl
@[simp] theorem endOperation_time (o : Operation) (e : Ending) (s : State) : (endOperation o e s).time = s.time := rfl
@[simp] theorem endOperation_portU (o : Operation) (e : Ending) (s : State) : (endOperation o e s).portU = s.portU := rfl
@[simp] theorem endOperation_portD (o : Operation) (e : Ending) (s : State) : (endOperation o e s).portD = s.portD := rfl
@[simp] theorem endOperation_classifier (o : Operation) (e : Ending) (s : State) : (endOperation o e s).classifier = s.classifier := rfl
@[simp] theorem endOperation_trigger (o : Operation) (e : Ending) (s : State) : (endOperation o e s).trigger = s.trigger := rfl
@[simp] theorem endOperation_capture (o : Operation) (e : Ending) (s : State) : (endOperation o e s).capture = s.capture := rfl
@[simp] theorem endOperation_agent (o : Operation) (e : Ending) (s : State) : (endOperation o e s).agent = s.agent := rfl
@[simp] theorem endOperation_draws (o : Operation) (e : Ending) (s : State) : (endOperation o e s).draws = s.draws := rfl
@[simp] theorem endOperation_pending (o : Operation) (e : Ending) (s : State) : (endOperation o e s).pending = s.pending := rfl
@[simp] theorem endOperation_store (o : Operation) (e : Ending) (s : State) : (endOperation o e s).store = s.store.ended o e s.time.linkTime := rfl
@[simp] theorem endOperation_resolver (o : Operation) (e : Ending) (s : State) : (endOperation o e s).resolver = s.resolver.unpin o.source := rfl

@[simp] theorem Store.ended_engine (t : Store) (o : Operation) (e : Ending) (m : Micros) :
    (t.ended o e m).engine = none := rfl
@[simp] theorem Store.ended_state (t : Store) (o : Operation) (e : Ending) (m : Micros) (p : Nat) :
    (t.ended o e m).state p = t.state p := rfl
@[simp] theorem Store.ended_isLocked (t : Store) (o : Operation) (e : Ending) (m : Micros) (p : Nat) :
    (t.ended o e m).isLocked p = t.isLocked p := rfl
@[simp] theorem Store.ended_word (t : Store) (o : Operation) (e : Ending) (m : Micros) (p i : Nat) :
    (t.ended o e m).word p i = t.word p i := rfl
@[simp] theorem Store.ended_erases (t : Store) (o : Operation) (e : Ending) (m : Micros) (p : Nat) :
    (t.ended o e m).erases p = t.erases p := rfl

/-- What a phase event can do: nothing, or its act after the time left of the phase (R154). -/
theorem phaseEvent_cases (ends : Operation → Bool) (f : Operation → State → State) (s : State) :
    phaseEvent ends f s = s ∨
      ∃ o, s.store.engine = some o ∧ ends o = true ∧ phaseEvent ends f s = f o (elapse o.left s) := by
  unfold phaseEvent
  split
  · exact .inl rfl
  · next o h =>
    split
    · next he => exact .inr ⟨o, h, he, rfl⟩
    · exact .inl rfl

/-- A program, erase or lock that is refused leaves the state (R158). -/
theorem carryOperation_refused {k : OpKind} {refusal : Request → State → Option ResultCode}
    {accept : Request → State → State} {d : Dispatch} {s : State} {c : ResultCode}
    (h : operationRefusal d.request.source (d.request.field 1) s = some c
      ∨ (operationRefusal d.request.source (d.request.field 1) s = none ∧ refusal d.request s = some c)) :
    carryOperation k refusal accept d s = refuse d.request c s := by
  rcases h with h | ⟨h, h'⟩ <;> simp [carryOperation, *]

/-- The words of a page after another page was filled, or after the same one was (R154). -/
theorem Store.word_fillPage {t : Store} (h : Cells.Wf 0 t.words) (p q i : Nat) (ws : List Word)
    (hl : ws.length = 256) (hi : i < 256) :
    (t.fillPage p ws).word q i = if q = p then ws.getD i 0 else t.word q i := by
  simp only [Store.word, Store.fillPage, pageSize, Cells.read_writeAll h, hl]
  by_cases hq : q = p
  · subst hq; simp [hi]
  · rw [if_neg (by omega), if_neg hq]

/-- The words of a page after a page was wiped. -/
theorem Store.word_wipe {t : Store} (h : Cells.Wf 0 t.words) (p q i : Nat) (hi : i < 256) :
    (t.wipe p).word q i = if q = p then 0 else t.word q i := by
  simp only [Store.word, Store.wipe, pageSize, Cells.read_eraseRange h]
  by_cases hq : q = p
  · subst hq; rw [if_pos (by omega), if_pos rfl]
  · rw [if_neg (by omega), if_neg hq]

/-- The words of a tuning page after a TUNE-WRITE that stays in its page (R47). -/
theorem Resolver.word_tune {x : Resolver} (h : Cells.Wf 0 x.tuning) (t u o i : Nat) (ws : List Word)
    (hl : o + ws.length ≤ 256) (hi : i < 256) :
    (x.tune t o ws).word u i
      = if u = t ∧ o ≤ i ∧ i < o + ws.length then ws.getD (i - o) 0 else x.word u i := by
  simp only [Resolver.word, Resolver.tune, pageSize, Cells.read_writeAll h]
  by_cases hu : u = t
  · subst hu
    by_cases hin : o ≤ i ∧ i < o + ws.length
    · rw [if_pos (by omega), if_pos ⟨rfl, hin⟩]; congr 1; omega
    · rw [if_neg (by omega), if_neg (by tauto)]
  · rw [if_neg (by omega), if_neg (by tauto)]

/-! ### The Capture Unit -/

/-- What a write can do: place the record in the next slot under the next serial, or, in FILL with 1022
unread records, nothing (R117). -/
theorem Capture.write_cases (c : Capture) (st : Stamp) (b : RecordBody) :
    (c.write st b = c ∧ ¬ c.unread < 1022 ∧ c.mode = .fill) ∨
      ∃ u r o, c.write st b
        = { c with ring := Cells.write none c.ring (nextSlot c.wc) (some ⟨c.nextSerial, st, b⟩),
                   wc := nextSlot c.wc, nextSerial := serialAfter c.nextSerial, unread := u, rc := r,
                   overwritten := o } := by
  unfold Capture.write
  split
  · exact .inr ⟨_, c.rc, c.overwritten, rfl⟩
  · next h =>
    split
    · exact .inr ⟨c.unread, nextSlot c.rc, bump c.overwritten, rfl⟩
    · next hm => exact .inl ⟨rfl, h, hm⟩

/-- What filling can do: nothing, or FULL with CAPTURE-FULL raised (R118). -/
theorem settleFull_cases (s : State) :
    settleFull s = s ∨
      settleFull s = raise .captureFull (s.withCapture { s.capture with state := .full }) := by
  unfold settleFull
  split
  · exact .inr rfl
  · exact .inl rfl

/-- The next slot stays in 1..1023 (R110). -/
theorem nextSlot_range {x : Nat} (h : x ≤ 1023) : 1 ≤ nextSlot x ∧ nextSlot x ≤ 1023 := by
  unfold nextSlot Config.lastSlot; split <;> omega

/-- No serial is 0 (R112). -/
theorem serialAfter_ne_zero (c : Count) : serialAfter c ≠ 0 := by
  unfold serialAfter
  split
  · decide
  · next h => intro h0; exact h (by bv_omega)

/-- The serial after a serial, as a whole number (R112). -/
theorem serialAfter_toNat (c : Count) :
    (serialAfter c).toNat = if c.toNat = 4294967295 then 1 else c.toNat + 1 := by
  unfold serialAfter
  split
  · next h => subst h; rfl
  · next h =>
    have hn : c.toNat ≠ 4294967295 := fun e => h (BitVec.eq_of_toNat_eq e)
    have := c.isLt
    rw [if_neg hn, BitVec.toNat_add]
    simp
    omega

/-! ### Bytes -/

/-- The bytes of a whole number, most significant first (4.2 of 00_scope.md). -/
theorem bytesOf_eq : ∀ n x : Nat,
    bytesOf n x = (List.range n).map fun j => BitVec.ofNat 8 (x / 256 ^ (n - 1 - j))
  | 0, _ => rfl
  | n + 1, x => by
    rw [bytesOf, bytesOf_eq n x, List.range_succ_eq_map, List.map_cons, List.map_map]
    congr 1
    · simp [byteOf, Nat.shiftRight_eq_div_pow, Nat.pow_mul]
    · apply List.map_congr_left
      intro j _
      simp only [Function.comp]
      rw [show n + 1 - 1 - (j + 1) = n - 1 - j by omega]

/-! ### The reset state -/

/-- Every table of the reset state is in canonical form. -/
theorem reset_tables_wf :
    Cells.Wf 0 State.reset.store.words ∧ Cells.Wf 0 State.reset.resolver.tuning
      ∧ Cells.Wf none State.reset.capture.ring :=
  ⟨Cells.wf_nil, Cells.wf_nil, Cells.wf_nil⟩

end Sys2Proof.Machine
end

