-- ==== Sys2Proof/Laws/Safety.lean ====
section
/-! SUPPORT. Laws of the notions of Safety.lean: what raising an alert condition comes to, and how a write of
the Capture Unit keeps the order of serials. -/

namespace Sys2Proof.Machine

/-! ### Alert conditions -/

/-- Raising a condition adds its bit of the alert set byte to the pending set, and changes nothing else
(R189, 11.4). -/
theorem raise_alerted (c : AlertCond) (s : State) :
    raise c s = s.alerted (match c with
      | .captureFull => 0b0000001#7 | .captureStopped => 0b0000010#7 | .storeDone => 0b0000100#7
      | .storeFault => 0b0001000#7 | .sessionExpired => 0b0010000#7 | .syncLost => 0b0100000#7
      | .profileRejected => 0b1000000#7) := by cases c <;> rfl

@[simp] theorem State.alerted_powered (s : State) (b : AlertSet) : (s.alerted b).powered = s.powered := rfl
@[simp] theorem State.alerted_strap (s : State) (b : AlertSet) : (s.alerted b).strap = s.strap := rfl
@[simp] theorem State.alerted_time (s : State) (b : AlertSet) : (s.alerted b).time = s.time := rfl
@[simp] theorem State.alerted_portU (s : State) (b : AlertSet) : (s.alerted b).portU = s.portU := rfl
@[simp] theorem State.alerted_portD (s : State) (b : AlertSet) : (s.alerted b).portD = s.portD := rfl
@[simp] theorem State.alerted_classifier (s : State) (b : AlertSet) :
    (s.alerted b).classifier = s.classifier := rfl
@[simp] theorem State.alerted_resolver (s : State) (b : AlertSet) : (s.alerted b).resolver = s.resolver := rfl
@[simp] theorem State.alerted_store (s : State) (b : AlertSet) : (s.alerted b).store = s.store := rfl
@[simp] theorem State.alerted_trigger (s : State) (b : AlertSet) : (s.alerted b).trigger = s.trigger := rfl
@[simp] theorem State.alerted_capture (s : State) (b : AlertSet) : (s.alerted b).capture = s.capture := rfl
@[simp] theorem State.alerted_agent (s : State) (b : AlertSet) :
    (s.alerted b).agent = { s.agent with
      alerts := { s.agent.alerts with pending := s.agent.alerts.pending ||| b } } := rfl
@[simp] theorem State.alerted_draws (s : State) (b : AlertSet) : (s.alerted b).draws = s.draws := rfl
@[simp] theorem State.alerted_pending (s : State) (b : AlertSet) : (s.alerted b).pending = s.pending := rfl

/-! ### Serials -/

/-- The steps to the slot after the write cursor are one more than those to the write cursor, from any other
slot (R110). -/
theorem stepsTo_next {i wc d : Nat} (hw : wc ≤ 1023) (h0 : wc ≠ 0) (hi : i ≠ nextSlot wc) (h1 : 1 ≤ i)
    (h2 : i ≤ 1023) (hd : stepsTo i (nextSlot wc) = some d) : ∃ e, stepsTo i wc = some e ∧ d = e + 1 := by
  obtain ⟨n, hn⟩ : ∃ n, nextSlot wc = n := ⟨_, rfl⟩
  have hc : (wc = 1023 ∧ n = 1) ∨ (wc < 1023 ∧ n = wc + 1) := by
    rw [← hn]; unfold nextSlot Config.lastSlot; split <;> omega
  rw [hn] at hi hd
  unfold stepsTo at hd ⊢
  rw [if_neg hi, if_neg (by omega), if_neg (by omega)] at hd
  simp only [Config.lastSlot] at *
  by_cases h : i = wc
  · rw [if_pos h]
    refine ⟨0, rfl, ?_⟩
    split at hd <;> cases hd <;> omega
  · rw [if_neg h, if_neg (by omega), if_neg h0]
    split at hd <;> cases hd <;> split
    all_goals exact ⟨_, rfl, by omega⟩

/-- A slot that holds a record is one of 1..1023 (R109). -/
theorem CaptureOk.slot_range {c : Capture} (ok : CaptureOk c) {i : Nat} {r : Record}
    (h : c.slot i = some r) : 1 ≤ i ∧ i ≤ 1023 :=
  ok.slots (i, some r) (Cells.mem_of_read (by simp) h)

/-- A record placed in the next slot keeps the order of serials (R110, R112, R117). -/
theorem Capture.put_serials {c : Capture} (ok : CaptureOk c) (hw : Cells.Wf none c.ring) (h : SerialsOk c)
    (st : Stamp) (b : RecordBody) : SerialsOk (c.put st b) := by
  have hn := nextSlot_range ok.wcRange
  have hs : c.nextSerial.toNat ≠ 0 := fun e => ok.serial (BitVec.eq_of_toNat_eq e)
  have hl := c.nextSerial.isLt
  refine ⟨fun e => ?_, fun i r d hr hd => ?_⟩
  · simp only [Capture.put] at e; omega
  · simp only [Capture.put, Capture.slot, Cells.read_write hw, serialAfter_toNat] at hr hd ⊢
    by_cases hi : i = nextSlot c.wc
    · rw [if_pos hi] at hr
      rw [hi, stepsTo, if_pos rfl] at hd
      cases hr
      cases hd
      exact ⟨ok.serial, by simp only [Nat.add_zero]; split <;> omega⟩
    · rw [if_neg hi] at hr
      have hin := ok.slot_range hr
      by_cases h0 : c.wc = 0
      · exact absurd (h.resting h0 i) (by simp [Capture.slot, hr])
      · obtain ⟨e, he, rfl⟩ := stepsTo_next ok.wcRange h0 hi hin.1 hin.2 hd
        obtain ⟨hz, hrise⟩ := h.rising i r e hr he
        exact ⟨hz, by split <;> omega⟩

end Sys2Proof.Machine
end

