-- ==== Sys2Proof/WellFormed.lean ====
section
/-! DEFINITION. Which commands are well formed. The types of `Instr` already bound every operand but
one: a run of data holds at least its first data byte (R5). -/

namespace Sys2Proof

/-- A run of data is never empty: it begins with its first data byte (R5). -/
def runPresent (run : List Byte) : Bool := !run.isEmpty

/-- The check of each command's operands. -/
def Instr.wellFormed : Instr → Bool
  | .frameArrival _ run => runPresent run
  | _ => true

end Sys2Proof
end

