-- ==== Sys2Proof/Tests/Slice0.lean ====
section
/-! SUPPORT. Tests. The first part checks single operations and commands against the spec's own tables and
worked examples, named at each test. The second part shows, for each statement with hypotheses, a concrete
state and operands that meet them, clause by clause, at boundary values where a clause has a range. -/

namespace Sys2Proof.Tests

open Sys2Proof Sys2Proof.Machine

set_option maxRecDepth 8192

/-! ### Concrete states -/

/-- A port that is LINK-UP with valid idle on its line. -/
def upPort : PortState := { PortState.atPor .idle with link := .up, measure := none }

/-- A powered bridge in bare mode with both ports LINK-UP, STORE_GUARD high, and a session of node 9. -/
def live : State :=
  { State.reset with
    portU := upPort, portD := upPort, store := Store.delivered true
    agent := { State.reset.agent with guard := true, session := some ⟨9, true, 100⟩ } }

/-- A request of node 9 that arrived at Port U. -/
def req (payload : List Byte) : Request := ⟨.U, 9, 33, payload⟩

/-- A state where a request of node 9 waits for its intake at Port U. -/
def asked (s : State) (payload : List Byte) : State :=
  s.onPort .U fun x => { x with request := some (req payload) }

/-- A request of node 9 dispatched to a block. -/
def sent (b : Block) (payload : List Byte) : Dispatch := ⟨b, req payload, 0, 1, none⟩

/-- A state where a dispatched request is next at its block, its reply frame held. -/
def owing (s : State) (d : Dispatch) : State :=
  (s.withAgent { s.agent with dispatched := [d] }).onPort .U fun x => { x with reservation := d.held }

/-- What `owing` leaves as it is, so that a condition on the state before it is one on the state itself. -/
theorem owing_keeps (s : State) (d : Dispatch) :
    (owing s d).powered = s.powered ∧ (owing s d).store = s.store ∧ (owing s d).resolver = s.resolver
      ∧ (owing s d).capture = s.capture ∧ (owing s d).trigger = s.trigger
      ∧ (owing s d).agent.session = s.agent.session ∧ (owing s d).agent.profile = s.agent.profile
      ∧ (TablesOk s → TablesOk (owing s d)) :=
  ⟨rfl, rfl, rfl, rfl, rfl, rfl, rfl, fun h =>
    ⟨h.nodeMap, h.nodeState, h.classCount, h.tuning, h.windows, h.pins, h.pageState, h.locked, h.eraseCount,
      h.words, h.conds, h.seen, h.ring⟩⟩

/-- What `asked` leaves as it is. -/
theorem asked_keeps (s : State) (payload : List Byte) :
    (asked s payload).powered = s.powered ∧ (asked s payload).agent = s.agent
      ∧ (asked s payload).store = s.store := ⟨rfl, rfl, rfl⟩

/-- A frame of node 12 with a right check. -/
def frameOf (dst : Byte) (kind : FrameKind) (seq : Byte) (payload : List Byte) : Frame :=
  Frame.build dst 12 kind seq payload

/-- A state where a frame accepted at a port waits for its lookup. -/
def accepting (s : State) (p : Port) (f : Frame) : State :=
  s.onPort p fun x => { x with accepted := some ⟨f, 0, false⟩ }

/-- A state with another capture. -/
def capturing (c : Capture) : State := live.withCapture c

/-- An armed FILL capture with 1021 unread records, of which the last slot is listed. -/
def nearlyFull : Capture :=
  { Capture.atPor .fill with
    state := .armed, wc := 1021, unread := 1021, nextSerial := 1022
    ring := [(1021, some ⟨1021, ⟨0, false⟩, .stop .none⟩)] }

/-- A FULL capture with 1022 unread and three missed requests. -/
def fullCapture : Capture :=
  { nearlyFull with state := .full, wc := 1022, unread := 1022, nextSerial := 1023, missed := 3 }

/-- A state with an operation in flight. -/
def busyWith (o : Operation) : State :=
  let t := live.withStore { live.store with
    engine := some o
    pageState := if o.kind = .lock then [] else [(o.page, .invalid)]
    locked := if o.kind = .unlockErase then [(o.page, true)] else [] }
  match o.source with
  | some n => t.withResolver { t.resolver with pins := [(n, true)] }
  | none => t

/-! ### Single operations against the spec -/

/-- The check of R4 is CRC-16/CCITT-FALSE: its well-known check value over the digits 1 to 9. -/
theorem test_crc_check_value :
    crc16 [0x31, 0x32, 0x33, 0x34, 0x35, 0x36, 0x37, 0x38, 0x39] = 0x29B1 := by decide

/-- 11.2: the request codes, and a few values beside them that name no request. -/
theorem test_request_codes :
    ([0x01, 0x02, 0x03, 0x04, 0x05, 0x06, 0x07, 0x08, 0x10, 0x11, 0x12, 0x13, 0x14, 0x20, 0x21, 0x22, 0x23,
      0x24, 0x25, 0x26, 0x30, 0x31, 0x32, 0x33, 0x34, 0x38, 0x39, 0x3A, 0x3B].map fun c : Byte =>
        ReqKind.ofPayload [c])
      = [ReqKind.identify, .status, .counters, .countersClear, .restart, .openSession, .closeSession,
          .alertAck, .tuneWrite, .tuneRead, .windowSet, .windowRead, .pageRead, .storeProgram, .storeErase,
          .storeLock, .storeUnlockErase, .storeAbort, .storeClearFault, .storeStatus, .captureArm,
          .captureStop, .captureClear, .captureMode, .captureMark, .readNext, .readBlock, .readSlot,
          .setReadCursor].map some
    ∧ [[], [0x00], [0x09], [0x15], [0x27], [0x35], [0x37], [0x3C], [0xFF]].all
        (fun p : List Byte => ReqKind.ofPayload p == none) = true := by decide

/-- 11.2: lengths that are right and lengths beside them that are not. -/
theorem test_request_lengths :
    [(ReqKind.captureMark, 2), (.captureMark, 13), (.captureArm, 1), (.captureArm, 3), (.tuneRead, 4),
        (.windowSet, 5)].all (fun x => x.1.lengthRight (List.replicate x.2 0)) = true
      ∧ [(ReqKind.captureMark, 1), (.captureMark, 14), (.captureArm, 2), (.tuneRead, 5), (.windowSet, 4)].all
        (fun x => !x.1.lengthRight (List.replicate x.2 0)) = true
      ∧ ReqKind.lengthRight .tuneWrite [0x10, 0, 0, 1, 0, 0] = true
      ∧ ReqKind.lengthRight .tuneWrite [0x10, 0, 0, 2, 0, 0] = false := by decide

/-- A run with no byte is ill formed; a command that carries one is refused by the check. -/
theorem test_wellFormed_refuses_empty_run :
    Instr.wellFormed (.frameArrival .U []) = false ∧ Instr.wellFormed (.frameArrival .U [0]) = true := by
  decide

/-- No word of table bits spells a command: the table gives no row any bits. -/
theorem test_no_word_spells_a_command : decodeTableWord 8 1 = none ∧ live.withFetchWord 8 1 = live := by
  decide

/-- 5.6: the value list of G1 under the Field Map of class 4. -/
theorem test_value_list_of_G1 :
    valueList (fun i => Cells.read 0 [(128, 5), (129, 0x0003), (130, 0x0204), (131, 0x0406), (132, 0x0701),
        (133, 0x0808)] i) 4 [1, 7, 255, 56, 255, 255, 156, 42, 0, 1, 134, 160]
      = [some ⟨.u16, 263⟩, some ⟨.s16, -200⟩, some ⟨.s24, -100⟩, some ⟨.u8, 42⟩, some ⟨.s32, 100000⟩] := by
  decide

/-- 5.6: the value list of G3, whose last three fields do not lie in its six bytes. -/
theorem test_value_list_of_G3 :
    valueList (fun i => Cells.read 0 [(128, 5), (129, 0x0003), (130, 0x0204), (131, 0x0406), (132, 0x0701),
        (133, 0x0808)] i) 4 [1, 7, 128, 0, 0, 0]
      = [some ⟨.u16, 263⟩, some ⟨.s16, -32768⟩, none, none, none] := by decide

/-- 6.6: S2 fires ABOVE and disarms it; S9 arms it again at 950. -/
theorem test_above_with_hysteresis :
    judgeAbove 1000 50 1003 ⟨0, true, none⟩ = (true, ⟨0, false, none⟩)
      ∧ judgeAbove 1000 50 951 ⟨0, false, none⟩ = (false, ⟨0, false, none⟩)
      ∧ judgeAbove 1000 50 950 ⟨0, false, none⟩ = (false, ⟨0, true, none⟩) := by decide

/-- 6.6: S1, S2 and S5 at CHANGE with 40; S4 and S5 at EVERY with 5. -/
theorem test_change_and_every :
    judgeChange 40 980 ⟨0, true, none⟩ = (true, ⟨0, true, some 980⟩)
      ∧ judgeChange 40 1003 ⟨0, true, some 980⟩ = (false, ⟨0, true, some 980⟩)
      ∧ judgeChange 40 1020 ⟨0, true, some 980⟩ = (true, ⟨0, true, some 1020⟩)
      ∧ judgeEvery 5 ⟨3, true, none⟩ = (false, ⟨4, true, none⟩)
      ∧ judgeEvery 5 ⟨4, true, none⟩ = (true, ⟨0, true, none⟩) := by decide

/-- The Match List of 4.7. -/
def list47 : Nat → Word := fun i => Cells.read 0
  [(0, 0xE104), (1, 0x0CFF), (2, 0x0800), (3, 256), (4, 65280), (8, 0x821E), (9, 0xFF7F), (24, 0xA005),
    (25, 0xFF01)] i

/-- 4.7: the winners of F1, F3, F4, F5 and F6, by class. -/
theorem test_match_list_winners :
    (matchSearch list47 .D (frameOf 1 .data 40 [1, 7, 0, 0, 0, 0, 0, 0, 0, 0])).map (·.cls) = some 4
      ∧ (matchSearch list47 .D (frameOf 1 .data 43 [1, 7, 0, 0, 0, 0])).map (·.cls) = some 5
      ∧ (matchSearch list47 .D (frameOf 127 .data 7 [1, 7, 0, 0])).map (·.cls) = some 30
      ∧ matchSearch list47 .U (frameOf 1 .data 44 [1, 7, 0, 0, 0, 0, 0, 0, 0, 0]) = none
      ∧ (matchSearch list47 .D (frameOf 1 .data 45 [2, 7, 0, 0, 0, 0, 0, 0, 0, 0])).map (·.cls) = some 5 := by
  decide

/-- 4.7: the gap flag of F1, F2 and F3. -/
theorem test_gap_flag :
    gapFlag true none 40 = false ∧ gapFlag true (some 40) 42 = true ∧ gapFlag true (some 42) 43 = false := by
  decide

/-- 2.5.1: with the passover count at 2 a transit frame is still chosen; at 3 the reply is. -/
theorem test_arbiter_passover :
    let f := frameOf 1 .data 1 []
    let r : Reply := ⟨frameOf 9 .mgmtRsp 1 [], 0⟩
    let x := { upPort with transit := [f], reply := [r] }
    ({ x with passover := 2 }.arbitrate.passover = 3 ∧ { x with passover := 2 }.arbitrate.reply = [r])
      ∧ ({ x with passover := 3 }.arbitrate.passover = 0 ∧ { x with passover := 3 }.arbitrate.transit = [f]) := by
  decide

/-- 7.9: the FRAME that takes U to 1022 leaves the capture FULL at serial 1023; the next one is missed. -/
theorem test_fill_capture_becomes_full :
    let q : RecordRequest := ⟨0, 0, [0], 12, 1, ⟨0, false⟩, []⟩
    let t := takeRequest q (capturing nearlyFull)
    (t.capture.state, t.capture.wc, t.capture.unread, t.capture.nextSerial, t.capture.missed)
        = (.full, 1022, 1022, 1023, 0)
      ∧ (takeRequest q t).capture.missed = 1 := by decide

/-- 7.9: the read that leaves U at 1006 resumes the capture with a GAP record in slot 1023. -/
theorem test_read_resumes_capture :
    let c := { fullCapture with rc := 15, unread := 1007, missed := 5 }
    let t := readOut 1 (capturing c)
    (t.capture.state, t.capture.wc, t.capture.rc, t.capture.unread, t.capture.missed, t.capture.nextSerial)
        = (.armed, 1023, 16, 1007, 0, 1024)
      ∧ (t.capture.slot 1023).map (·.body) = some (.gap 5) := by decide

/-- R110, R142: the steps from a slot to the write cursor at the ends of the ring. -/
theorem test_steps_to_write_cursor :
    stepsTo 0 1022 = some 1022 ∧ stepsTo 0 1023 = none ∧ stepsTo 5 0 = none ∧ stepsTo 1023 1 = some 1
      ∧ stepsTo 2 1 = some 1022 := by decide

/-- R112: the serial after 4294967295 is 1. -/
theorem test_serial_wraps_to_one : serialAfter 4294967295 = 1 := by decide

/-- 10.8: a first send takes the pending set, try 1 and the next serial; the third expiry gives it up. -/
theorem test_alert_cycle :
    let a := { Alerts.atPor with pending := 4, nextSerial := 17 }
    (a.sent.outstanding, a.sent.pending, a.sent.tries, a.sent.current, a.sent.nextSerial) = (4, 0, 1, 17, 18)
      ∧ ({ a.sent with tries := 3 } : Alerts).expired.unreported = 4
      ∧ ({ a.sent with tries := 2 } : Alerts).expired.retryDue = true := by decide

/-- R176: the node address in bare mode is 120 and the strap. -/
theorem test_bare_address : (Profile.bare 3).address = 123 ∧ (Profile.bare 0).address = 120 := by decide

/-- R175: a page with block limit 0 and autostart 2 is REJECTED with the lower index, 6. -/
theorem test_profile_rejected_at_first_field :
    (loadFrom (fun i => Cells.read 0 [(0, 0x5042), (1, 40), (7, 0xFFFF), (8, 0xFFFF), (10, 2), (12, 10)] i)
      0).2 = .rejected 6 := by decide

/-- 11.3: a START record as delivered: synced, serial 1, stamp 2, WRAP, limit 258. -/
theorem test_start_record_bytes :
    Record.bytes ⟨1, ⟨2, true⟩, .start .wrap 258⟩
      = [0x81, 0, 0, 0, 1, 0, 0, 0, 0, 0, 2, 0, 1, 2] := by decide

/-! ### Witnesses: frames, links and Link Time (chapter 1) -/

/-- A DATA frame of the longest payload, 64 bytes. -/
def longest : Frame := frameOf 1 .data 7 (List.replicate 64 0)

theorem witness_AcceptedRunsAreExactlyFrames :
    (judgeRun (frameOf 1 .data 7 []).bytes = .good (frameOf 1 .data 7 []))
      ∧ judgeRun longest.bytes = .good longest ∧ judgeRun [0, 0, 0, 0, 0, 0, 0] ≠ .good longest := by
  decide +kernel

/-- The bytes of a run with a right check over any bytes before it. -/
def checked (bytes : List Byte) : List Byte := bytes ++ wordBytes (crc16 bytes)

theorem witness_DiscardedRunCountsOneError :
    (live.powered = true ∧ (live.port .U).link = .up ∧ (live.port .U).awaitIdle = false)
      ∧ (List.replicate 6 (0 : Byte) ≠ [] ∧ (List.replicate 6 (0 : Byte)).length < 7)
      ∧ 71 < (List.replicate 72 (0 : Byte)).length
      ∧ crc16 [0, 0, 0, 0, 0] ≠ BitVec.ofNat 16 (numberOf [0, 0])
      ∧ ∀ run ∈ [checked [1, 2, 0, 3, 0], checked [1, 2, 6, 3, 0], checked [1, 127, 1, 3, 0],
            checked [1, 2, 1, 3, 1], checked ([1, 2, 1, 3, 65] ++ List.replicate 64 0)],
          let n := run.length
          7 ≤ n ∧ n ≤ 71 ∧ crc16 (run.take (n - 2)) = BitVec.ofNat 16 (numberOf (run.drop (n - 2)))
            ∧ (64 < (run.getD 4 0).toNat ∨ n ≠ 7 + (run.getD 4 0).toNat ∨ (run.getD 2 0).toNat = 0
              ∨ 5 < (run.getD 2 0).toNat ∨ 126 < (run.getD 1 0).toNat) := by decide +kernel

theorem witness_FrameAcceptedWithStamp :
    live.powered = true ∧ (live.port .U).link = .up ∧ (live.port .U).awaitIdle = false
      ∧ (live.port .U).accepted = none
      ∧ ∀ f ∈ [longest, frameOf 127 .sync 1 [0, 0, 0, 0, 1, 0], frameOf 127 .sync 1 [0, 0, 0, 0, 1]],
          f.payload.length ≤ 64 ∧ f.src.toNat ≤ 126 ∧ f.check = crc16 (f.header ++ f.payload) := by
  decide +kernel

/-- A bridge whose Port U waits for an idle symbol after a broken-off run. -/
def waitingForIdle : State := live.onPort .U fun x => { x with awaitIdle := true, line := .invalid }

theorem witness_BrokenOrIgnoredRunCounting :
    (live.powered = true ∧ (live.port .U).link = .up ∧ (live.port .U).awaitIdle = false)
      ∧ (State.reset.powered = true ∧ (State.reset.port .U).link = .down)
      ∧ (waitingForIdle.powered = true ∧ (waitingForIdle.port .U).awaitIdle = true)
      ∧ [(0 : Byte)] ≠ [] := by decide

/-- A bridge whose Port U takes a run of data. -/
def takingRun : State := live.onPort .U fun x => { x with line := .data }

theorem witness_LineConditionDrivesMeasurement :
    (live.powered = true ∧ (live.port .U).line ≠ .silence ∧ (live.port .U).line ≠ .data)
      ∧ ((State.reset.port .U).line ≠ .idle ∧ (State.reset.port .U).link = .down)
      ∧ ((waitingForIdle.port .U).line ≠ .idle ∧ (waitingForIdle.port .U).awaitIdle = true)
      ∧ (takingRun.powered = true ∧ (takingRun.port .U).line = .data ∧ (takingRun.port .U).link = .up
          ∧ (takingRun.port .U).awaitIdle = false ∧ LineCond.invalid ≠ .idle) := by decide

/-- A bridge whose three timers of the link and the Time Base run: idle at Port U, silence at Port D. -/
def timersRun : State :=
  ((live.withPort .U (PortState.atPor .idle)).onPort .D fun x =>
    { x with line := .silence, measure := some 5000, sending := some ⟨frameOf 1 .data 1 [], true, 3⟩,
             transit := [frameOf 1 .data 2 []] }).withTime { live.time with lossTimer := some 5000 }

theorem witness_LinkAndSyncTimersExpire :
    timersRun.powered = true
      ∧ ((timersRun.port .U).link = .down ∧ (timersRun.port .U).measure = some 5000
          ∧ EgressOk (timersRun.port .U))
      ∧ ((timersRun.port .D).link = .up ∧ (timersRun.port .D).measure = some 5000
          ∧ Cells.Wf Side.unknown timersRun.classifier.nodeMap)
      ∧ timersRun.time.lossTimer = some 5000 :=
  ⟨rfl, ⟨rfl, rfl, by constructor <;> decide⟩, ⟨rfl, rfl, by decide⟩, rfl⟩

/-! ### Witnesses: transit and egress (chapter 2) -/

/-- A bridge whose Port U sends, with the queues given. -/
def sending (transit : List Frame) (reply : List Reply) (passover : Nat) : State :=
  live.onPort .U fun x =>
    { x with sending := some ⟨frameOf 1 .data 1 [], false, 72⟩, transit := transit, reply := reply,
             passover := passover }

theorem witness_CompletionChoosesNextFrame :
    ∀ s ∈ [sending [] [] 0, sending [frameOf 1 .data 2 []] [] 0,
        sending [] [⟨frameOf 9 .mgmtRsp 2 [], 0⟩] 3,
        sending [frameOf 1 .data 2 []] [⟨frameOf 9 .mgmtRsp 2 [], 0⟩] 2,
        sending [frameOf 1 .data 2 []] [⟨frameOf 9 .mgmtRsp 2 [], 0⟩] 3],
      s.powered = true ∧ (s.port .U).sending = some ⟨frameOf 1 .data 1 [], false, 72⟩
        ∧ (s.port .U).link = .up := by decide

theorem witness_HandedFramesJoinOrDrop :
    let full := (sending (List.replicate 8 (frameOf 1 .data 2 [])) [] 0).portU
    let seven := (sending (List.replicate 7 (frameOf 1 .data 2 [])) [] 0).portU
    (EgressOk (PortState.atPor .idle) ∧ (PortState.atPor .idle).link = .down)
      ∧ (EgressOk full ∧ full.link = .up ∧ full.transit.length = 8)
      ∧ (EgressOk seven ∧ seven.link = .up ∧ seven.transit.length < 8 ∧ seven.sending ≠ none)
      ∧ (EgressOk upPort ∧ upPort.link = .up ∧ upPort.sending = none) :=
  ⟨⟨by constructor <;> decide, rfl⟩, ⟨by constructor <;> decide, rfl, rfl⟩,
    ⟨by constructor <;> decide, rfl, by decide, by decide⟩, ⟨by constructor <;> decide, rfl, rfl⟩⟩

/-! ### Witnesses: windows, pages and lookups (chapters 3 and 4) -/

/-- Windows W1 and W3 lie over page 1; W0 is disabled over it. -/
def windowed : State :=
  live.withResolver { live.resolver with windows := [(0, ⟨false, 1, 2⟩), (1, ⟨true, 1, 3⟩), (3, ⟨true, 1, 0⟩)] }

/-- A program of page 1 from T2, and a lock of page 1. -/
def programOf1 : Operation := ⟨.program, 1, some 2, .erasing, 200000⟩
/-- A lock of page 1. -/
def lockOf1 : Operation := ⟨.lock, 1, none, .locking, 50000⟩

theorem witness_ResolutionPrefersLowestWindow :
    ((windowed.resolver.window 1).enabled = true ∧ (windowed.resolver.window 1).target = 1
        ∧ ∀ v, v < 1 → ¬ ((windowed.resolver.window v).enabled = true ∧ (windowed.resolver.window v).target = 1))
      ∧ (∀ w, w ≤ 3 → ¬ ((live.resolver.window w).enabled = true ∧ (live.resolver.window w).target = 10))
      ∧ (programOf1.page = 1 ∧ programOf1.kind ≠ .lock ∧ (busyWith programOf1).store.engine = some programOf1)
      ∧ (lockOf1.page = 1 ∧ lockOf1.kind = .lock ∧ (busyWith lockOf1).store.engine = some lockOf1)
      ∧ ({ live.store with pageState := [(10, .valid)] } : Store).state 10 = .valid
      ∧ live.store.state 10 ≠ .valid := by
  refine ⟨⟨rfl, rfl, by decide⟩, ?_, ⟨rfl, by decide, rfl⟩, ⟨rfl, rfl, rfl⟩, by decide, by decide⟩
  intro w _ h
  exact Bool.false_ne_true h.1

/-- A bridge whose tuning page T1 is pinned. -/
def pinned1 : State := live.withResolver { live.resolver with pins := [(1, true)] }

/-- TUNE-WRITE of two words at 254 of T1, and one word too far. -/
def tune254 : Dispatch := sent .resolver [0x10, 1, 254, 2, 0, 1, 0, 2]
/-- The same at 255, past the end of the page. -/
def tune255 : Dispatch := sent .resolver [0x10, 1, 255, 2, 0, 1, 0, 2]

theorem witness_TuneWriteReplacesWords :
    (AtOwner (owing live tune255) .resolver .tuneWrite tune255 ∧ ¬ 255 + 2 ≤ 256
        ∧ tune255.request.payload.length = 4 + 2 * tune255.request.field 3)
      ∧ (AtOwner (owing pinned1 tune254) .resolver .tuneWrite tune254 ∧ pinned1.resolver.pinned 1 = true
        ∧ tune254.request.payload.length = 4 + 2 * tune254.request.field 3)
      ∧ (AtOwner (owing live tune254) .resolver .tuneWrite tune254 ∧ live.resolver.pinned 1 = false
        ∧ Cells.Wf 0 (owing live tune254).resolver.tuning) :=
  ⟨⟨⟨rfl, rfl, rfl, rfl⟩, by decide, rfl⟩, ⟨⟨rfl, rfl, rfl, rfl⟩, rfl, rfl⟩,
    ⟨⟨rfl, rfl, rfl, rfl⟩, rfl, by decide⟩⟩

/-- Reads of 28 words up to the end of T3 and of page 10; a read of no word. -/
def tuneRead3 : Dispatch := sent .resolver [0x11, 3, 228, 28]
/-- A TUNE-READ of T4, which is not there. -/
def tuneRead4 : Dispatch := sent .resolver [0x11, 4, 228, 28]
/-- A PAGE-READ of 28 words up to the end of page 10. -/
def pageRead10 : Dispatch := sent .resolver [0x14, 10, 228, 28]
/-- A PAGE-READ of no word. -/
def pageReadNone : Dispatch := sent .resolver [0x14, 1, 0, 0]
/-- A PAGE-READ of one word of page 1. -/
def pageRead1 : Dispatch := sent .resolver [0x14, 1, 0, 1]

theorem witness_PageWordsReadAsTheyStand :
    AtOwner (owing live tuneRead4) .resolver .tuneRead tuneRead4
      ∧ AtOwner (owing live tuneRead3) .resolver .tuneRead tuneRead3
      ∧ AtOwner (owing live pageReadNone) .resolver .pageRead pageReadNone
      ∧ AtOwner (owing (busyWith lockOf1) pageRead1) .resolver .pageRead pageRead1
      ∧ (AtOwner (owing live pageRead10) .resolver .pageRead pageRead10 ∧ live.store.engine = none) :=
  ⟨⟨rfl, rfl, rfl, rfl⟩, ⟨rfl, rfl, rfl, rfl⟩, ⟨rfl, rfl, rfl, rfl⟩, ⟨rfl, rfl, rfl, rfl⟩,
    ⟨rfl, rfl, rfl, rfl⟩, rfl⟩

/-- WINDOW-SET of W3 over page 10 with T3; over page 11, which no window may target. -/
def windowSet3 : Dispatch := sent .resolver [0x12, 3, 1, 10, 3]
/-- WINDOW-SET over page 11. -/
def windowSet11 : Dispatch := sent .resolver [0x12, 3, 1, 11, 3]

theorem witness_WindowSetTakesAllFields :
    (AtOwner (owing live windowSet11) .resolver .windowSet windowSet11 ∧ ¬ windowSet11.request.field 3 ≤ 10)
      ∧ (AtOwner (owing live windowSet3) .resolver .windowSet windowSet3 ∧ windowSet3.request.field 1 ≤ 3
        ∧ 1 ≤ windowSet3.request.field 3 ∧ windowSet3.request.field 3 ≤ 10
        ∧ windowSet3.request.field 4 ≤ 3
        ∧ Cells.Wf Window.atPor (owing live windowSet3).resolver.windows) :=
  ⟨⟨⟨rfl, rfl, rfl, rfl⟩, by decide⟩, ⟨rfl, rfl, rfl, rfl⟩, by decide, by decide, by decide, by decide,
    by decide⟩

/-- WINDOW-READ of W3 and of W4. -/
def windowRead3 : Dispatch := sent .resolver [0x13, 3]
/-- WINDOW-READ of W4, which is not there. -/
def windowRead4 : Dispatch := sent .resolver [0x13, 4]

theorem witness_WindowReadShowsWindow :
    (AtOwner (owing windowed windowRead4) .resolver .windowRead windowRead4
        ∧ 3 < windowRead4.request.field 1)
      ∧ (AtOwner (owing windowed windowRead3) .resolver .windowRead windowRead3
        ∧ windowRead3.request.field 1 ≤ 3) :=
  ⟨⟨⟨rfl, rfl, rfl, rfl⟩, by decide⟩, ⟨rfl, rfl, rfl, rfl⟩, by decide⟩

theorem witness_LookupFatesByKind :
    ∀ f ∈ [frameOf 5 .sync 1 [], frameOf 5 .mgmtRsp 1 [], frameOf 5 .alert 1 [], frameOf 120 .mgmtReq 1 [],
        frameOf 127 .mgmtReq 1 [0x01], frameOf 127 .mgmtReq 1 [0x02], frameOf 120 .data 1 []],
      let s := accepting live .U f
      s.powered = true ∧ (s.port .U).accepted = some ⟨f, 0, false⟩ ∧ (s.port .U).request = none
        ∧ s.trigger.passage = none ∧ s.agent.profile.address = 120 := by decide

/-- A bridge that holds unmatched frames. -/
def holding : State :=
  live.withAgent { live.agent with profile := { live.agent.profile with unmatched := .hold } }

theorem witness_LookupWithoutClass :
    let f := frameOf 127 .data 1 []
    let s := accepting live .U f
    let busy := accepting (busyWith programOf1) .U f
    let held := accepting holding .U f
    (s.powered = true ∧ (s.port .U).accepted = some ⟨f, 0, false⟩ ∧ (s.port .U).request = none
        ∧ s.trigger.passage = none ∧ f.kind = .data ∧ f.dst ≠ s.agent.profile.address)
      ∧ (pageContent busy 1 = none ∧ (busy.port .U).accepted = some ⟨f, 0, false⟩)
      ∧ (pageContent s 1 = some (fun _ => 0) ∧ matchSearch (fun _ => 0) .U f = none
        ∧ s.agent.profile.unmatched = .pass)
      ∧ (pageContent held 1 = some (fun _ => 0) ∧ held.agent.profile.unmatched = .hold) :=
  ⟨by decide, ⟨rfl, rfl⟩, ⟨rfl, by decide, rfl⟩, rfl, rfl⟩

/-- A bridge whose page 1 is the Match List of 4.7, with node 13 excluded, and the Trigger Unit RUNNING. -/
def listed : State :=
  (live.withStore { live.store with
    pageState := [(1, .valid), (10, .valid)]
    words := [(256, 0xE104), (257, 0x0CFF), (258, 0x0800), (259, 256), (260, 65280), (264, 0x821E),
      (265, 0xFF7F), (280, 0xA005), (281, 0xFF01), (2584, 2), (2586, 1)] }).withTrigger
    { live.trigger with state := .running }

/-- The frames F1 and F4 of 4.7. -/
def f1 : Frame := frameOf 1 .data 40 [1, 7, 0, 0, 0, 0, 0, 0, 0, 0]
/-- F4 of 4.7. -/
def f4 : Frame := frameOf 127 .data 7 [1, 7, 0, 0]

theorem witness_LookupOfMatchedFrame :
    (∀ f ∈ [f1, f4],
      let s := accepting listed .D f
      s.powered = true ∧ (s.port .D).accepted = some ⟨f, 0, false⟩ ∧ (s.port .D).request = none
        ∧ s.trigger.passage = none ∧ f.kind = .data ∧ f.dst ≠ s.agent.profile.address)
      ∧ pageContent listed 1 = some (fun i => listed.store.word 1 i)
      ∧ (matchSearch (fun i => listed.store.word 1 i) .D f1).map (·.action) = some .passRecord
      ∧ (matchSearch (fun i => listed.store.word 1 i) .D f4).map (·.action) = some .hold
      ∧ pageContent listed 10 = some (fun i => listed.store.word 10 i)
      ∧ pageContent listed 2 = some (fun _ => 0) ∧ pageContent listed 6 = some (fun _ => 0) :=
  ⟨by decide, rfl, by decide, by decide, rfl, rfl, rfl⟩

/-- 11.6: an entry with every field its own value, written out bit by bit: enabled, key present, UPSTREAM, bit
11 not named, RECORD-ONLY, class 5; source 12, destination 40; minimum length 10, key offset 4. -/
theorem test_match_entry_fields :
    matchEntry (fun i => Cells.read 0 [(16, 0b1_1_10_1_011_00000101), (17, 0x0C28), (18, 0x0A04), (19, 0x1234),
        (20, 0xFF00)] i) 2
      = some ⟨.upstream, .recordOnly, 5, 12, 40, 10, true, 4, 0x1234, 0xFF00⟩ := by decide

theorem witness_FirstMatchingEntryWins :
    (matchSearch list47 .D f1).isSome = true ∧ matchEntry list47 2 = none ∧ (matchEntry list47 3).isSome = true
      ∧ gapFlag true (some 255) 1 = true ∧ gapFlag true (some 255) 0 = false := by decide

theorem witness_WaitingEventsTakenFirst :
    let s := accepting (asked live [0x01]) .U f4
    s.powered = true ∧ (s.port .U).accepted ≠ none ∧ (s.port .U).request ≠ none ∧ (s.port .U).link = .up
      ∧ (s.port .U).awaitIdle = false ∧ f1.payload.length ≤ 64 ∧ f1.src.toNat ≤ 126
      ∧ f1.check = crc16 (f1.header ++ f1.payload) := by decide

/-! ### Witnesses: extraction and conditions (chapters 5 and 6) -/

theorem witness_ValueListFromFieldMap :
    let page : Nat → Word := fun i => Cells.read 0 [(128, 2), (129, 0x3F01), (130, 0x0008)] i
    (page 128).toNat = 2 ∧ (valueList page 4 (List.replicate 64 0x80)).length = 2
      ∧ (valueList page 4 [0x80, 0, 0]).getD 1 none = none
      ∧ (valueList page 4 (List.replicate 64 0x80)).getD 0 none = some ⟨.u8, 128⟩ := by decide

/-- 11.6: condition 3 of class 9, in the second block of its page: BELOW field 2, A = -200, B = 50; and a kind
word that is not listed. -/
theorem test_condition_words :
    readCond (fun i => Cells.read 0 [(56, 4), (57, 2), (58, 0xFFFF), (59, 0xFF38), (60, 50)] i) 9 3
        = ⟨.below, 2, -200, 50⟩
      ∧ readCond (fun i => Cells.read 0 [(0, 8)] i) 0 0 = ⟨.none, 0, 0, 0⟩ := by decide

/-- A summary of class 7 with one value, and one with an ABSENT entry. -/
def summaryOf7 (v : Option Value) (conds : List Cond) : Summary := ⟨7, 21, 1, false, ⟨0, false⟩, [v], conds⟩

theorem witness_ConditionsJudgedByKind :
    (∀ k ∈ [CondKind.none, .always, .first, .seqGap, .every, .above, .below, .change],
      (⟨k, 0, 1, 0⟩ : Cond).kind = k ∧ 1 ≤ (⟨k, 0, 1, 0⟩ : Cond).a)
      ∧ ((⟨.every, 0, 65536, 0⟩ : Cond).a > 65535 ∧ (⟨.change, 0, -1, 0⟩ : Cond).a < 0)
      ∧ (summaryOf7 none []).values.getD 0 none = none
      ∧ (summaryOf7 (some ⟨.s16, 980⟩) []).values.getD 0 none = some ⟨.s16, 980⟩
      ∧ (⟨0, true, some 980⟩ : CondState).reference = some 980 ∧ CondState.atArm.reference = none := by decide

/-- A RUNNING Trigger Unit with one summary of a FIRST condition at the head, node 126 at the range's end. -/
def evaluating : State :=
  live.withTrigger { live.trigger with
    state := .running
    queue := [⟨31, 126, 1, false, ⟨0, false⟩, [], [⟨.first, 0, 0, 0⟩, ⟨.always, 0, 0, 0⟩]⟩] }

theorem witness_EvaluationJudgesHeadSummary :
    (live.powered = true ∧ live.trigger.state = .frozen)
      ∧ (∃ x, evaluating.powered = true ∧ evaluating.trigger.state = .running
        ∧ evaluating.trigger.queue = x :: [] ∧ evaluating.trigger.handOff = none
        ∧ Cells.Wf CondState.atArm evaluating.trigger.conds ∧ Cells.Wf false evaluating.trigger.seen
        ∧ x.source.toNat ≤ 126) :=
  ⟨⟨rfl, rfl⟩, _, rfl, rfl, rfl, rfl, by decide, by decide, by decide⟩

/-- A Trigger Unit with a summary in passage, `n` in its queue, and the notices given. -/
def triggered (st : TriggerState) (n : Nat) (notices : List Notice) : State :=
  live.withTrigger { live.trigger with
    state := st, passage := some (summaryOf7 none []), queue := List.replicate n (summaryOf7 none [])
    notices := notices }

theorem witness_SummariesAndNoticesAtTrigger :
    (∀ s ∈ [triggered .running 15 [.arm], triggered .running 16 [.stop], triggered .frozen 0 [.clear]],
      s.powered = true ∧ s.trigger.passage = some (summaryOf7 none []))
      ∧ (triggered .running 15 [.arm]).trigger.queue.length < 16
      ∧ 16 ≤ (triggered .running 16 [.stop]).trigger.queue.length
      ∧ (triggered .frozen 0 [.clear]).trigger.state = .frozen
      ∧ (triggered .running 15 [.arm]).trigger.notices = [.arm]
      ∧ (triggered .running 16 [.stop]).trigger.notices = [.stop]
      ∧ (triggered .frozen 0 [.clear]).trigger.notices = [.clear] := by decide

/-! ### Witnesses: the capture (chapters 7 and 8) -/

theorem nearlyFull_ok : CaptureOk nearlyFull := by constructor <;> decide

theorem fullCapture_ok : CaptureOk fullCapture := by constructor <;> decide

/-- A STOPPED FILL capture with 1022 unread records. -/
def stoppedFull : Capture := { fullCapture with state := .stopped, missed := 0 }

theorem stoppedFull_ok : CaptureOk stoppedFull := by constructor <;> decide

theorem idle_ok (m : Mode) : CaptureOk (Capture.atPor m) := by cases m <;> constructor <;> decide

/-- An armed WRAP capture at a limit of 5 of which 4 are counted. -/
def nearLimit : Capture := { nearlyFull with mode := .wrap, limit := 5, limitCount := 4 }

theorem nearLimit_ok : CaptureOk nearLimit := by constructor <;> decide

/-- An armed WRAP capture with room and no limit. -/
def roomy : Capture := { nearlyFull with mode := .wrap }

theorem roomy_ok : CaptureOk roomy := by constructor <;> decide

/-- A state with a capture and a record request in the hand-off. -/
def handingOff (c : Capture) : State :=
  (capturing c).withTrigger { live.trigger with handOff := some ⟨7, 0, [0], 21, 1, ⟨0, false⟩, []⟩ }

theorem witness_RecordRequestByCaptureState :
    (∀ c ∈ [Capture.atPor .wrap, stoppedFull, fullCapture, roomy, nearlyFull, nearLimit,
        { nearlyFull with limit := 5, limitCount := 4 }],
      CaptureOk c ∧ (handingOff c).powered = true ∧ (handingOff c).capture = c
        ∧ (handingOff c).trigger.handOff = some ⟨7, 0, [0], 21, 1, ⟨0, false⟩, []⟩
        ∧ Cells.Wf none (handingOff c).capture.ring)
      ∧ (roomy.state = .armed ∧ roomy.limit = 0 ∧ roomy.mode = .wrap)
      ∧ (nearlyFull.limit = 0 ∧ nearlyFull.mode = .fill ∧ nearlyFull.unread + 1 = 1022)
      ∧ (nearLimit.limit ≠ 0 ∧ nearLimit.limitCount + 1 = nearLimit.limit ∧ nearLimit.mode = .wrap) := by
  refine ⟨?_, by decide, by decide, by decide⟩
  intro c hc
  have ok : CaptureOk c := by
    simp only [List.mem_cons, List.not_mem_nil, or_false] at hc
    rcases hc with rfl | rfl | rfl | rfl | rfl | rfl | rfl
    · exact idle_ok .wrap
    · exact stoppedFull_ok
    · exact fullCapture_ok
    · exact roomy_ok
    · exact nearlyFull_ok
    · exact nearLimit_ok
    · constructor <;> decide
  refine ⟨ok, rfl, rfl, rfl, ?_⟩
  simp only [List.mem_cons, List.not_mem_nil, or_false] at hc
  rcases hc with rfl | rfl | rfl | rfl | rfl | rfl | rfl <;> decide

/-- CAPTURE-ARM with a limit of 258, and with none. -/
def armLimit : Dispatch := sent .capture [0x30, 1, 2]
/-- CAPTURE-ARM with no limit. -/
def armOpen : Dispatch := sent .capture [0x30]

/-- A STOPPED FILL capture one record short of full. -/
def stoppedNear : Capture := { nearlyFull with state := .stopped }

theorem stoppedNear_ok : CaptureOk stoppedNear := by constructor <;> decide

theorem witness_CaptureArmWritesStart :
    (AtOwner (owing (capturing roomy) armOpen) .capture .captureArm armOpen ∧ CaptureOk roomy
        ∧ ¬ (roomy.state = .idle ∨ roomy.state = .stopped))
      ∧ (AtOwner (owing (capturing stoppedFull) armOpen) .capture .captureArm armOpen ∧ CaptureOk stoppedFull
        ∧ stoppedFull.state = .stopped ∧ stoppedFull.mode = .fill ∧ stoppedFull.unread = 1022)
      ∧ (AtOwner (owing (capturing stoppedNear) armLimit) .capture .captureArm armLimit
        ∧ CaptureOk stoppedNear ∧ stoppedNear.state = .stopped ∧ stoppedNear.unread < 1022
        ∧ Cells.Wf none stoppedNear.ring)
      ∧ (AtOwner (owing live armOpen) .capture .captureArm armOpen ∧ live.capture.state = .idle
        ∧ live.capture.mode = .wrap) :=
  ⟨⟨⟨rfl, rfl, rfl, rfl⟩, roomy_ok, by decide⟩, ⟨⟨rfl, rfl, rfl, rfl⟩, stoppedFull_ok, rfl, rfl, rfl⟩,
    ⟨⟨rfl, rfl, rfl, rfl⟩, stoppedNear_ok, rfl, by decide, by decide⟩, ⟨rfl, rfl, rfl, rfl⟩, rfl, rfl⟩

/-- CAPTURE-STOP, CAPTURE-CLEAR, CAPTURE-MODE and CAPTURE-MARK. -/
def stopRequest : Dispatch := sent .capture [0x31]
/-- CAPTURE-CLEAR. -/
def clearRequest : Dispatch := sent .capture [0x32]
/-- CAPTURE-MODE of a value. -/
def modeRequest (m : Byte) : Dispatch := sent .capture [0x33, m]
/-- CAPTURE-MARK of a text of 12 bytes. -/
def markRequest : Dispatch := sent .capture (0x34 :: List.replicate 12 0x41)

theorem witness_CaptureStopWritesStop :
    (AtOwner (owing live stopRequest) .capture .captureStop stopRequest ∧ live.capture.state = .idle
        ∧ CaptureOk live.capture)
      ∧ (AtOwner (owing (capturing fullCapture) stopRequest) .capture .captureStop stopRequest
        ∧ fullCapture.state = .full ∧ CaptureOk fullCapture)
      ∧ (AtOwner (owing (capturing nearlyFull) stopRequest) .capture .captureStop stopRequest
        ∧ nearlyFull.state = .armed ∧ CaptureOk nearlyFull ∧ Cells.Wf none nearlyFull.ring) :=
  ⟨⟨⟨rfl, rfl, rfl, rfl⟩, rfl, idle_ok .wrap⟩, ⟨⟨rfl, rfl, rfl, rfl⟩, rfl, fullCapture_ok⟩,
    ⟨rfl, rfl, rfl, rfl⟩, rfl, nearlyFull_ok, by decide⟩

theorem witness_CaptureClearAndMode :
    (AtOwner (owing (capturing roomy) clearRequest) .capture .captureClear clearRequest
        ∧ roomy.state = .armed)
      ∧ (AtOwner (owing (capturing stoppedFull) clearRequest) .capture .captureClear clearRequest
        ∧ stoppedFull.state = .stopped)
      ∧ (AtOwner (owing live (modeRequest 2)) .capture .captureMode (modeRequest 2)
        ∧ 1 < (modeRequest 2).request.field 1)
      ∧ (AtOwner (owing (capturing fullCapture) (modeRequest 1)) .capture .captureMode (modeRequest 1)
        ∧ fullCapture.state = .full)
      ∧ (AtOwner (owing live (modeRequest 1)) .capture .captureMode (modeRequest 1)
        ∧ (modeRequest 1).request.field 1 ≤ 1 ∧ live.capture.state = .idle) :=
  ⟨⟨⟨rfl, rfl, rfl, rfl⟩, rfl⟩, ⟨⟨rfl, rfl, rfl, rfl⟩, rfl⟩, ⟨⟨rfl, rfl, rfl, rfl⟩, by decide⟩,
    ⟨⟨rfl, rfl, rfl, rfl⟩, rfl⟩, ⟨rfl, rfl, rfl, rfl⟩, by decide, rfl⟩

theorem witness_CaptureMarkWritesMark :
    (AtOwner (owing live markRequest) .capture .captureMark markRequest ∧ live.capture.state = .idle
        ∧ CaptureOk live.capture)
      ∧ (AtOwner (owing (capturing fullCapture) markRequest) .capture .captureMark markRequest
        ∧ CaptureOk fullCapture ∧ fullCapture.state = .full)
      ∧ (AtOwner (owing (capturing nearlyFull) markRequest) .capture .captureMark markRequest
        ∧ CaptureOk nearlyFull ∧ nearlyFull.mode = .fill ∧ nearlyFull.unread + 1 = 1022
        ∧ Cells.Wf none nearlyFull.ring)
      ∧ (AtOwner (owing (capturing roomy) markRequest) .capture .captureMark markRequest ∧ CaptureOk roomy
        ∧ roomy.mode = .wrap) :=
  ⟨⟨⟨rfl, rfl, rfl, rfl⟩, rfl, idle_ok .wrap⟩, ⟨⟨rfl, rfl, rfl, rfl⟩, fullCapture_ok, rfl⟩,
    ⟨⟨rfl, rfl, rfl, rfl⟩, nearlyFull_ok, rfl, rfl, by decide⟩, ⟨rfl, rfl, rfl, rfl⟩, roomy_ok, rfl⟩

/-- READ-NEXT, and READ-BLOCK of a count. -/
def nextRequest : Dispatch := sent .capture [0x38]
/-- READ-BLOCK of a count. -/
def blockRequest (n : Byte) : Dispatch := sent .capture [0x39, n]

/-- 11.3: a FRAME record with a U16, an ABSENT and a S8 entry, written out byte by byte. -/
theorem test_frame_record_layout :
    (⟨258, ⟨0x010203040506, true⟩, .frame 7 1 [1, 3] 21 200 [some ⟨.u16, 263⟩, none, some ⟨.s8, -1⟩]⟩ : Record).bytes
      = [0x83, 0, 0, 1, 2, 1, 2, 3, 4, 5, 6, 7, 0x1A, 21, 200, 3, 0x30, 0x20, 0, 0, 1, 7, 0xFF] := by decide

theorem witness_CursorReadsDeliverInOrder :
    (AtOwner (owing live nextRequest) .capture .readNext nextRequest ∧ live.capture.unread = 0)
      ∧ (AtOwner (owing (capturing fullCapture) nextRequest) .capture .readNext nextRequest
        ∧ fullCapture.unread ≠ 0 ∧ Cells.Wf none fullCapture.ring)
      ∧ (AtOwner (owing live (blockRequest 17)) .capture .readBlock (blockRequest 17)
        ∧ 16 < (blockRequest 17).request.field 1)
      ∧ (AtOwner (owing live (blockRequest 16)) .capture .readBlock (blockRequest 16)
        ∧ (blockRequest 16).request.field 1 ≤ 16)
      ∧ (AtOwner (owing (capturing fullCapture) (blockRequest 1)) .capture .readBlock (blockRequest 1)
        ∧ 1 ≤ (blockRequest 1).request.field 1) :=
  ⟨⟨⟨rfl, rfl, rfl, rfl⟩, rfl⟩, ⟨⟨rfl, rfl, rfl, rfl⟩, by decide, by decide⟩,
    ⟨⟨rfl, rfl, rfl, rfl⟩, by decide⟩, ⟨⟨rfl, rfl, rfl, rfl⟩, by decide⟩, ⟨rfl, rfl, rfl, rfl⟩, by decide⟩

/-- READ-SLOT of a slot, high byte first. -/
def slotRequest (hi lo : Byte) : Dispatch := sent .capture [0x3A, hi, lo]

theorem witness_ReadSlotMovesNothing :
    (AtOwner (owing live (slotRequest 0 0)) .capture .readSlot (slotRequest 0 0)
        ∧ (slotRequest 0 0).request.field2 1 = 0)
      ∧ (AtOwner (owing live (slotRequest 4 0)) .capture .readSlot (slotRequest 4 0)
        ∧ 1023 < (slotRequest 4 0).request.field2 1)
      ∧ (AtOwner (owing live (slotRequest 3 255)) .capture .readSlot (slotRequest 3 255)
        ∧ (slotRequest 3 255).request.field2 1 = 1023)
      ∧ (AtOwner (owing (capturing nearlyFull) (slotRequest 3 253)) .capture .readSlot (slotRequest 3 253)
        ∧ (nearlyFull.slot 1021).isSome = true) :=
  ⟨⟨⟨rfl, rfl, rfl, rfl⟩, rfl⟩, ⟨⟨rfl, rfl, rfl, rfl⟩, by decide⟩, ⟨⟨rfl, rfl, rfl, rfl⟩, rfl⟩,
    ⟨rfl, rfl, rfl, rfl⟩, rfl⟩

/-- SET-READ-CURSOR to a slot, high byte first. -/
def cursorRequest (hi lo : Byte) : Dispatch := sent .capture [0x3B, hi, lo]

/-- An armed FILL capture whose cursors stand at slot 1023: slot 1 is 1022 steps before the write cursor. -/
def caughtUp : Capture := { nearlyFull with wc := 1023, rc := 1023, unread := 0, ring := [] }

theorem caughtUp_ok : CaptureOk caughtUp := by constructor <;> decide

/-- The steps of the pre-increment from slot 1 on, while they stay below slot 1023. -/
theorem steps_from_one : ∀ v, v ≤ 1022 → nextSlot^[v] 1 = v + 1
  | 0, _ => rfl
  | v + 1, h => by
    rw [Function.iterate_succ_apply', steps_from_one v (by omega), nextSlot]
    exact if_neg (by show ¬ (v + 1 = 0 ∨ v + 1 = 1023); omega)

theorem witness_SetReadCursorCountsSteps :
    (AtOwner (owing live (cursorRequest 4 0)) .capture .setReadCursor (cursorRequest 4 0)
        ∧ 1023 < (cursorRequest 4 0).request.field2 1 ∧ CaptureOk live.capture)
      ∧ (AtOwner (owing (capturing caughtUp) (cursorRequest 0 1)) .capture .setReadCursor (cursorRequest 0 1)
        ∧ (cursorRequest 0 1).request.field2 1 = 1 ∧ caughtUp.state = .armed ∧ caughtUp.mode = .fill
        ∧ CaptureOk caughtUp ∧ Cells.Wf none caughtUp.ring ∧ nextSlot^[1022] 1 = caughtUp.wc
        ∧ ∀ v, v < 1022 → nextSlot^[v] 1 ≠ caughtUp.wc)
      ∧ (AtOwner (owing (capturing fullCapture) (cursorRequest 3 254)) .capture .setReadCursor
          (cursorRequest 3 254)
        ∧ (cursorRequest 3 254).request.field2 1 = fullCapture.wc ∧ fullCapture.state = .full
        ∧ CaptureOk fullCapture ∧ fullCapture.missed ≠ 0) := by
  refine ⟨⟨⟨rfl, rfl, rfl, rfl⟩, by decide, idle_ok .wrap⟩, ⟨⟨rfl, rfl, rfl, rfl⟩, rfl, rfl, rfl, caughtUp_ok,
    by decide, steps_from_one 1022 (by omega), ?_⟩, ⟨rfl, rfl, rfl, rfl⟩, rfl, rfl, fullCapture_ok, by decide⟩
  intro v hv
  rw [steps_from_one v (by omega)]
  show v + 1 ≠ 1023
  omega

/-! ### Witnesses: the Table Store (chapter 9) -/

theorem live_tables : TablesOk live := by constructor <;> decide

/-- A request of the store for page 10. -/
def programRequest (hi lo : Byte) : Dispatch := sent .store [0x20, 10, 3, hi, lo]
/-- STORE-ERASE of page 10. -/
def eraseRequest : Dispatch := sent .store [0x21, 10]
/-- STORE-LOCK of page 10. -/
def lockRequest : Dispatch := sent .store [0x22, 10]
/-- STORE-UNLOCK-ERASE of page 10. -/
def unlockRequest : Dispatch := sent .store [0x23, 10]

/-- A bridge whose page 10 is locked. -/
def locked10 : State := live.withStore { live.store with locked := [(10, true)] }

theorem locked10_tables : TablesOk locked10 := by constructor <;> decide

/-- CRC-16 of a blank tuning page, as a program of T3 must carry it. -/
def blankCheck : Word := Resolver.pageCheck Resolver.atPor 3

/-- STORE-PROGRAM of page 10 from the blank T3 with its right check. -/
def programRight : Dispatch := sent .store ([0x20, 10, 3] ++ wordBytes blankCheck)

theorem witness_StoreProgramAcceptance :
    (AtOwner (owing locked10 (programRequest 0 0)) .store .storeProgram (programRequest 0 0)
        ∧ TablesOk locked10
        ∧ storeRefusal locked10 (programRequest 0 0).request (some 0x0D) = some 0x0D)
      ∧ (AtOwner (owing live programRight) .store .storeProgram programRight ∧ TablesOk live
        ∧ storeRefusal live programRight.request
          (if 3 < programRight.request.field 2 then some 0x05
          else if live.store.isLocked 10 then some 0x0D
          else if (crc16 ((List.range 256).flatMap fun i => wordBytes (live.resolver.word 3 i))).toNat
            ≠ programRight.request.field2 3 then some 0x10
          else none) = none) :=
  ⟨⟨⟨rfl, rfl, rfl, rfl⟩, locked10_tables, by decide⟩, ⟨rfl, rfl, rfl, rfl⟩, live_tables,
    by decide +kernel⟩

theorem witness_StoreEraseAcceptance :
    (AtOwner (owing locked10 eraseRequest) .store .storeErase eraseRequest ∧ TablesOk locked10
        ∧ storeRefusal locked10 eraseRequest.request (some 0x0D) = some 0x0D)
      ∧ (AtOwner (owing live eraseRequest) .store .storeErase eraseRequest ∧ TablesOk live
        ∧ storeRefusal live eraseRequest.request none = none ∧ live.store.isLocked 10 = false)
      ∧ (AtOwner (owing live unlockRequest) .store .storeUnlockErase unlockRequest
        ∧ storeRefusal live unlockRequest.request (some 0x0E) = some 0x0E)
      ∧ (AtOwner (owing locked10 unlockRequest) .store .storeUnlockErase unlockRequest
        ∧ storeRefusal locked10 unlockRequest.request none = none ∧ locked10.store.isLocked 10 = true
        ∧ locked10.agent.session.map (·.override) = some true) :=
  ⟨⟨⟨rfl, rfl, rfl, rfl⟩, locked10_tables, by decide⟩, ⟨⟨rfl, rfl, rfl, rfl⟩, live_tables, by decide, rfl⟩,
    ⟨⟨rfl, rfl, rfl, rfl⟩, by decide⟩, ⟨rfl, rfl, rfl, rfl⟩, by decide, rfl, rfl⟩

theorem witness_StoreLockAcceptance :
    (AtOwner (owing locked10 lockRequest) .store .storeLock lockRequest
        ∧ storeRefusal locked10 lockRequest.request (some 0x0D) = some 0x0D)
      ∧ (AtOwner (owing live lockRequest) .store .storeLock lockRequest
        ∧ storeRefusal live lockRequest.request none = none ∧ live.store.isLocked 10 = false
        ∧ live.store.state 10 ≠ .invalid) :=
  ⟨⟨⟨rfl, rfl, rfl, rfl⟩, by decide⟩, ⟨rfl, rfl, rfl, rfl⟩, by decide, rfl, by decide⟩

/-- STORE-ABORT and STORE-CLEAR-FAULT. -/
def abortRequest : Dispatch := sent .store [0x24]
/-- STORE-CLEAR-FAULT. -/
def clearFaultRequest : Dispatch := sent .store [0x25]

/-- The same bridge with no session. -/
def sessionless : State := live.withAgent { live.agent with session := none }

theorem witness_StoreAbortAndGuard :
    (AtOwner (owing sessionless abortRequest) .store .storeAbort abortRequest
        ∧ sessionless.agent.session.map (·.owner) ≠ some 9)
      ∧ (AtOwner (owing live abortRequest) .store .storeAbort abortRequest ∧ live.store.engine = none
        ∧ live.agent.session.map (·.owner) = some 9 ∧ Cells.Wf false live.resolver.pins)
      ∧ (AtOwner (owing (busyWith programOf1) abortRequest) .store .storeAbort abortRequest
        ∧ (busyWith programOf1).store.engine = some programOf1
        ∧ Cells.Wf false (busyWith programOf1).resolver.pins ∧ (busyWith programOf1).powered = true) :=
  ⟨⟨⟨rfl, rfl, rfl, rfl⟩, by decide⟩, ⟨⟨rfl, rfl, rfl, rfl⟩, rfl, rfl, by decide⟩, ⟨rfl, rfl, rfl, rfl⟩, rfl,
    by decide, rfl⟩

theorem witness_StoreClearFaultClearsLatch :
    AtOwner (owing sessionless clearFaultRequest) .store .storeClearFault clearFaultRequest
      ∧ (AtOwner (owing (busyWith lockOf1) clearFaultRequest) .store .storeClearFault clearFaultRequest
        ∧ (busyWith lockOf1).store.engine ≠ none)
      ∧ (AtOwner (owing live clearFaultRequest) .store .storeClearFault clearFaultRequest
        ∧ live.store.engine = none ∧ live.agent.session.map (·.owner) = some 9) :=
  ⟨⟨rfl, rfl, rfl, rfl⟩, ⟨⟨rfl, rfl, rfl, rfl⟩, by decide⟩, ⟨rfl, rfl, rfl, rfl⟩, rfl, rfl⟩

/-- STORE-STATUS. -/
def storeStatusRequest : Dispatch := sent .store [0x26]

/-- A bridge with a last-result record. -/
def afterLock : State :=
  live.withStore { live.store with last := some ⟨.lock, 1, none, .done, .locking, 5⟩ }

theorem witness_StoreStatusShowsStore :
    (AtOwner (owing live storeStatusRequest) .store .storeStatus storeStatusRequest
        ∧ live.store.last = none)
      ∧ (AtOwner (owing afterLock storeStatusRequest) .store .storeStatus storeStatusRequest
        ∧ afterLock.store.last = some ⟨.lock, 1, none, .done, .locking, 5⟩) :=
  ⟨⟨⟨rfl, rfl, rfl, rfl⟩, rfl⟩, ⟨rfl, rfl, rfl, rfl⟩, rfl⟩

theorem witness_PhaseCompletions :
    (∀ ph ∈ [Phase.erasing, .writing, .verifying],
      let o : Operation := ⟨.program, 1, some 2, ph, 7⟩
      (busyWith o).powered = true ∧ (busyWith o).store.engine = some o ∧ o.source = some 2)
      ∧ (∀ o ∈ [(⟨.erase, 1, none, .erasing, 7⟩ : Operation), ⟨.unlockErase, 1, none, .erasing, 7⟩, lockOf1],
        (busyWith o).powered = true ∧ (busyWith o).store.engine = some o ∧ o.source = none)
      ∧ TablesOk (busyWith programOf1) ∧ TablesOk (busyWith lockOf1)
      ∧ (∀ i, i < 256 → (busyWith programOf1).store.word 1 i = (busyWith programOf1).resolver.word 2 i) := by
  exact ⟨by decide, by decide, by constructor <;> decide, by constructor <;> decide, fun i _ => rfl⟩

/-! ### Witnesses: the Agent (chapter 10) -/

/-- A bridge whose Reply Queue at Port U has no free frame. -/
def noRoom : State := live.onPort .U fun x => { x with reservation := 8 }

/-- A bridge with one manager, node 4, and node 9 as alert node. -/
def managed : State :=
  live.withAgent { live.agent with
    profile := { live.agent.profile with managers := [4], alertNode := some 9 } }

/-- The request that `asked` has waiting. -/
theorem asked_waits (s : State) (h : s.powered = true) (payload : List Byte) :
    AtIntake (asked s payload) .U (req payload) := ⟨h, rfl, rfl⟩

theorem witness_IntakeChecksInOrder :
    (AtIntake (asked noRoom [0x02]) .U (req [0x02]) ∧ ((asked noRoom [0x02]).port .U).free = 0
        ∧ (req [0x02]).kind = some .status)
      ∧ (AtIntake (asked live []) .U (req []) ∧ (req []).kind = none)
      ∧ (AtIntake (asked live [0x01]) .U (req [0x01]) ∧ (req [0x01]).kind = some .identify)
      ∧ (AtIntake (asked live [0x01, 0]) .U (req [0x01, 0]) ∧ (req [0x01, 0]).payload.length ≠ 1)
      ∧ (AtIntake (asked managed [0x05]) .U (req [0x05]) ∧ (req [0x05]).kind = some .restart
        ∧ managed.agent.profile.admits .restart 9 = false ∧ managed.agent.profile.admits .alertAck 9 = true)
      ∧ (AtIntake (asked live [0x02, 0]) .U (req [0x02, 0]) ∧ 0 < ((asked live [0x02, 0]).port .U).free
        ∧ ReqKind.status.lengthRight [0x02, 0] = false ∧ live.agent.repeated (req [0x02, 0]) = none)
      ∧ (AtIntake (asked sessionless [0x07]) .U (req [0x07]) ∧ ReqKind.closeSession.lengthRight [0x07] = true
        ∧ sessionless.agent.session.map (·.owner) ≠ some 9) :=
  ⟨⟨asked_waits _ rfl _, rfl, rfl⟩, ⟨asked_waits _ rfl _, rfl⟩, ⟨asked_waits _ rfl _, rfl⟩,
    ⟨asked_waits _ rfl _, by decide⟩, ⟨asked_waits _ rfl _, rfl, by decide, by decide⟩,
    ⟨asked_waits _ rfl _, by decide, rfl, rfl⟩, asked_waits _ rfl _, rfl, by decide⟩

/-- A bridge whose Retry Cache holds an entry of node 9 under sequence 33, with the frames given, and
`reserved` frames held back at Port U. -/
def cached (frames : Option (List Frame)) (reserved : Nat) : State :=
  asked ((live.withAgent { live.agent with cache := [⟨9, 33, 0, frames⟩], nextId := 1 }).onPort .U
    fun x => { x with reservation := reserved }) [0x02]

theorem witness_RepeatAnsweredFromCache :
    let two := [frameOf 9 .mgmtRsp 33 [], frameOf 9 .mgmtRsp 33 []]
    (∀ s ∈ [cached (some two) 6, cached (some two) 7, cached none 0],
      s.powered = true ∧ (s.port .U).request = some (req [0x02]) ∧ 0 < (s.port .U).free
        ∧ s.agent.profile.admits .status 9 = true ∧ (s.agent.cache.map (·.node)).Nodup)
      ∧ ((cached (some two) 6).port .U).free = 2 ∧ ((cached (some two) 7).port .U).free = 1
      ∧ (req [0x02]).kind = some .status ∧ (req [0x02]).port = .U
      ∧ (⟨9, 33, 0, none⟩ : CacheEntry) ∈ (cached none 0).agent.cache := by decide

/-- A request of a payload passes the checks of a new one on a live bridge. -/
theorem passes (payload : List Byte) (k : ReqKind) (hk : (req payload).kind = some k) (hi : k ≠ .identify) :
    PassesAsNew (asked live payload) .U (req payload) k :=
  ⟨asked_waits _ rfl _, Nat.zero_lt_succ 7, hk, hi, rfl, rfl⟩

theorem witness_NewRequestDispatchedWithRoom :
    (PassesAsNew (asked live [0x12, 0, 1, 1, 0]) .U (req [0x12, 0, 1, 1, 0]) .windowSet
        ∧ live.agent.session.map (·.owner) = some 9
        ∧ ReqKind.windowSet.lengthRight [0x12, 0, 1, 1, 0] = true)
      ∧ (PassesAsNew (asked live [0x26]) .U (req [0x26]) .storeStatus
        ∧ ReqKind.storeStatus.lengthRight [0x26] = true)
      ∧ (PassesAsNew (asked live [0x39, 16]) .U (req [0x39, 16]) .readBlock
        ∧ ReqKind.readBlock.lengthRight [0x39, 16] = true ∧ ((asked live [0x39, 16]).port .U).free = 8) :=
  ⟨⟨passes _ _ rfl (by decide), rfl, rfl⟩, ⟨passes _ _ rfl (by decide), rfl⟩, passes _ _ rfl (by decide), rfl,
    rfl⟩

theorem witness_AnswersBuiltPlacedAndKept :
    let s := live.withAgent { live.agent with cache := [⟨9, 33, 7, none⟩, ⟨4, 1, 6, none⟩] }
    (EgressOk (s.port .U) ∧ (s.agent.cache.map (·.id)).Nodup)
      ∧ (∀ e ∈ s.agent.cache, e.id ≠ 5) ∧ (⟨9, 33, 7, none⟩ : CacheEntry) ∈ s.agent.cache
      ∧ EgressOk (State.reset.port .U) ∧ EgressOk ((sending [] [] 0).port .U) :=
  ⟨⟨by constructor <;> decide, by decide⟩, by decide, by decide, by constructor <;> decide,
    by constructor <;> decide⟩

/-- The live bridge with STORE_GUARD low as the Agent took it, and so no session. -/
def guardLow : State := live.withAgent { live.agent with session := none, guard := false }

/-- The live bridge with the session of another node. -/
def heldByOther : State := live.withAgent { live.agent with session := some ⟨4, false, 100⟩ }

theorem witness_SessionOpensAndEnds :
    (PassesAsNew (asked guardLow [0x06, 1]) .U (req [0x06, 1]) .openSession ∧ guardLow.agent.guard = false)
      ∧ (PassesAsNew (asked heldByOther [0x06, 1]) .U (req [0x06, 1]) .openSession
        ∧ heldByOther.agent.guard = true ∧ heldByOther.agent.session = some ⟨4, false, 100⟩)
      ∧ (PassesAsNew (asked sessionless [0x06, 1]) .U (req [0x06, 1]) .openSession
        ∧ sessionless.agent.guard = true ∧ sessionless.agent.session = none)
      ∧ (PassesAsNew (asked live [0x06, 1]) .U (req [0x06, 1]) .openSession
        ∧ live.agent.session.map (·.owner) = some 9)
      ∧ PassesAsNew (asked live [0x07]) .U (req [0x07]) .closeSession
      ∧ (live.powered = true ∧ live.agent.session = some ⟨9, true, 100⟩) :=
  ⟨⟨⟨asked_waits _ rfl _, by decide, rfl, by decide, rfl, rfl⟩, rfl⟩,
    ⟨⟨asked_waits _ rfl _, by decide, rfl, by decide, rfl, rfl⟩, rfl, rfl⟩,
    ⟨⟨asked_waits _ rfl _, by decide, rfl, by decide, rfl, rfl⟩, rfl, rfl⟩,
    ⟨passes _ _ rfl (by decide), rfl⟩, passes _ _ rfl (by decide), rfl, rfl⟩

/-- A bridge with node 9 as alert node and the alerts given. -/
def alerting (a : Alerts) : State := managed.withAgent { managed.agent with alerts := a }

theorem witness_AlertCycle :
    (live.powered = true ∧ live.agent.profile.alertNode = none)
      ∧ (∀ a ∈ [{ Alerts.atPor with pending := 1 },
            { Alerts.atPor with outstanding := 1, tries := 2, retryDue := true }],
          (alerting a).powered = true ∧ (alerting a).agent.profile.alertNode = some 9
            ∧ (a.retryDue = true ∨ (a.pending ≠ 0 ∧ a.outstanding = 0))
            ∧ 0 < ((alerting a).port .U).free)
      ∧ (alerting Alerts.atPor).agent.profile.alertNode = some 9
      ∧ (∀ a ∈ [{ Alerts.atPor with outstanding := 1, tries := 2, ackTimer := some 5 },
            { Alerts.atPor with outstanding := 1, tries := 3, ackTimer := some 5 }],
          (alerting a).agent.alerts.ackTimer = some 5 ∧ (alerting a).agent.alerts.outstanding ≠ 0)
      ∧ PassesAsNew (asked live [0x08, 0]) .U (req [0x08, 0]) .alertAck
      ∧ (PassesAsNew (asked (alerting { Alerts.atPor with outstanding := 1, tries := 1, current := 7 })
          [0x08, 7]) .U (req [0x08, 7]) .alertAck) :=
  ⟨⟨rfl, rfl⟩, by decide, rfl, by decide, passes _ _ rfl (by decide),
    ⟨asked_waits _ rfl _, by decide, rfl, by decide, rfl, rfl⟩⟩

theorem witness_GatheringsBegin :
    PassesAsNew (asked live [0x02]) .U (req [0x02]) .status
      ∧ (PassesAsNew (asked live [0x03, 5]) .U (req [0x03, 5]) .counters ∧ 4 < (req [0x03, 5]).field 1)
      ∧ (PassesAsNew (asked live [0x03, 0]) .U (req [0x03, 0]) .counters
        ∧ 2 ≤ ((asked live [0x03, 0]).port .U).free)
      ∧ (PassesAsNew (asked live [0x03, 4]) .U (req [0x03, 4]) .counters ∧ (req [0x03, 4]).field 1 ≤ 4)
      ∧ PassesAsNew (asked live [0x04]) .U (req [0x04]) .countersClear :=
  ⟨passes _ _ rfl (by decide), ⟨passes _ _ rfl (by decide), by decide⟩,
    ⟨passes _ _ rfl (by decide), by decide⟩, ⟨passes _ _ rfl (by decide), by decide⟩,
    passes _ _ rfl (by decide)⟩

/-- A gathering of the kind given that waits for the blocks given, of which the first is next. -/
def gatheringOf (k : GatherKind) (blocks : List Block) : Gather := ⟨3, k, req [0x02], 2, 1, blocks, []⟩

/-- A bridge where that gathering is under way. -/
def gathers (k : GatherKind) (blocks : List Block) : State :=
  live.withAgent { live.agent with
    gathers := [gatheringOf k blocks]
    dispatched := blocks.map fun b => ⟨b, req [0x02], 2, 1, some 3⟩
    nextId := 4 }

theorem witness_StatusPartsReadWhole :
    ∀ b ∈ [Block.timeBase, .port .U, .port .D, .capture, .store], ∀ more ∈ [[], [Block.trigger]],
      AtPart (gathers (.status []) (b :: more)) b (gatheringOf (.status []) (b :: more))
        ∧ (gatheringOf (.status []) (b :: more)).waiting.erase b = more := by
  intro b hb more hm
  simp only [List.mem_cons, List.not_mem_nil, or_false] at hb hm
  rcases hb with rfl | rfl | rfl | rfl | rfl <;> rcases hm with rfl | rfl <;>
    exact ⟨⟨rfl, ⟨_, rfl, rfl⟩, rfl⟩, rfl⟩

theorem witness_CounterPartsReadAndCleared :
    ∀ k ∈ [GatherKind.counters 0, .counters 1, .counters 4, .clear],
      ∀ b ∈ [Block.port .U, .port .D, .classifier, .trigger],
        AtPart (gathers k [b]) b (gatheringOf k [b]) ∧ (gatheringOf k [b]).waiting.erase b = [] := by
  intro k _ b hb
  simp only [List.mem_cons, List.not_mem_nil, or_false] at hb
  rcases hb with rfl | rfl | rfl | rfl <;> exact ⟨⟨rfl, ⟨_, rfl, rfl⟩, rfl⟩, rfl⟩

/-- A store whose page 0 holds the words given, VALID. -/
def storeOf (words : Cells Word) : Store := { Store.delivered true with pageState := [(0, .valid)], words := words }

/-- The words of a profile whose every field stands at an end of its range. -/
def profileWords : Cells Word :=
  [(0, 0x5042), (1, 126), (2, 4), (4, 126), (5, 5), (6, 6), (7, 0xFFFF), (8, 126), (9, 1), (10, 1), (11, 16),
    (12, 60), (13, 1)]

theorem witness_ProfileLoadedFromPageZero :
    (live.store.state 0 ≠ .valid ∧ (storeOf []).word 0 0 ≠ 0x5042)
      ∧ ((storeOf [(0, 0x5042), (1, 127)]).state 0 = .valid ∧ (storeOf [(0, 0x5042), (1, 127)]).word 0 0 = 0x5042
        ∧ ¬ ((storeOf [(0, 0x5042), (1, 127)]).word 0 1).toNat ≤ 126)
      ∧ ((storeOf profileWords).state 0 = .valid ∧ (storeOf profileWords).word 0 0 = 0x5042
        ∧ ((storeOf profileWords).loadProfile 0).2 = .loaded) := by decide

theorem witness_RestartAtTheAgent :
    (PassesAsNew (asked live [0x05]) .U (req [0x05]) .restart ∧ live.store.engine = none)
      ∧ (PassesAsNew (asked (busyWith lockOf1) [0x05]) .U (req [0x05]) .restart
        ∧ (busyWith lockOf1).store.engine ≠ none) :=
  ⟨⟨passes _ _ rfl (by decide), rfl⟩, ⟨asked_waits _ rfl _, by decide, rfl, by decide, rfl, rfl⟩, by decide⟩

/-- A bridge where a first RESTART waits for its autostart only and a second for every block. -/
def restarting (c : Capture) : State :=
  (capturing c).withAgent { live.agent with
    profile := { live.agent.profile with autostart := true }
    restarts := [⟨false, false, false, false, false, false, false⟩, Restarting.all] }

theorem witness_BlocksRestart :
    (∀ c ∈ [Capture.atPor .wrap, stoppedFull, fullCapture, nearlyFull],
      (restarting c).powered = true
        ∧ (restarting c).agent.restarts = [Restarting.done] ++ Restarting.all :: []
        ∧ (Restarting.all.egressU = true ∧ Restarting.done.egressU = false)
        ∧ (Restarting.all.classifier = true ∧ Restarting.done.classifier = false)
        ∧ (Restarting.all.resolver = true ∧ Restarting.done.resolver = false)
        ∧ (Restarting.all.trigger = true ∧ Restarting.done.trigger = false)
        ∧ (Restarting.all.capture = true ∧ Restarting.done.capture = false)
        ∧ (Restarting.all.timeBase = true ∧ Restarting.done.timeBase = false)
        ∧ (restarting c).agent.restarts = [] ++ Restarting.done :: [Restarting.all]
        ∧ (restarting c).agent.profile.autostart = true ∧ Cells.Wf none (restarting c).capture.ring
        ∧ Cells.Wf Window.atPor (restarting c).resolver.windows)
      ∧ CaptureOk stoppedFull ∧ CaptureOk fullCapture ∧ CaptureOk nearlyFull
      ∧ CaptureOk (Capture.atPor .wrap) :=
  ⟨by decide, stoppedFull_ok, fullCapture_ok, nearlyFull_ok, idle_ok .wrap⟩

theorem witness_PowerOnAndPowerLoss :
    (live.store.loadProfile 0).1.autostart = false
      ∧ ((storeOf profileWords).loadProfile 0).1.autostart = true := by decide

/-! ### Witnesses: every command and every state -/

theorem witness_StepRunsFrontCommand :
    (live.pending = [] ∧ live.powered = true)
      ∧ (({ live with powered := false } : State).pending = []
        ∧ ({ live with powered := false } : State).powered = false) := by decide

theorem witness_CommandsEndAndKeepTheQueue :
    ({ live with powered := false } : State).powered = false
      ∧ (∀ p c, Instr.evaluation ≠ .lineConditionChange p c) ∧ Instr.evaluation ≠ .powerLoss
      ∧ ∀ g a n, Instr.evaluation ≠ .por g a n :=
  ⟨rfl, nofun, nofun, nofun⟩

/-- The live bridge is a legal state, and a step of it answers a next state. -/
theorem live_legal : LegalState live where
  tables := live_tables
  egress p := by cases p <;> constructor <;> decide
  replyRoom := by
    refine ⟨fun p => ?_, fun p => ?_, by decide, by decide, by decide, by decide⟩ <;> cases p <;> decide
  store := by
    refine ⟨by decide, by decide, nofun, fun t => ⟨fun h => ?_, fun h => ?_⟩⟩
    · exact absurd h Bool.false_ne_true
    · obtain ⟨o, h, _⟩ := h
      cases h
  trigger := by constructor <;> decide
  capture := idle_ok .wrap
  serials := ⟨fun _ _ => rfl, nofun⟩
  agent := by
    refine ⟨by constructor <;> decide, by decide, fun x h => ?_, by decide,
      by decide, by decide, by decide, by constructor <;> decide, by decide, by decide⟩
    cases h
    decide

/-- A stopped capture whose one record carries the largest serial, so that the next is 1. -/
def wrapped : Capture :=
  { Capture.atPor .wrap with
    state := .stopped, wc := 1, unread := 1, nextSerial := 1
    ring := [(1, some ⟨4294967295, ⟨0, false⟩, .stop .request⟩)] }

/-- A ring that holds one record, at the write cursor and with the serial before the next one, is in order. -/
theorem single_serials {c : Capture} {x : Record} (hw : c.wc ≠ 0) (hr : c.ring = [(c.wc, some x)])
    (h0 : x.serial ≠ 0) (hs : x.serial.toNat % 4294967295 + 1 = c.nextSerial.toNat) : SerialsOk c := by
  refine ⟨fun h => absurd h hw, fun i r d hi hd => ?_⟩
  rw [Capture.slot, hr] at hi
  by_cases h : c.wc = i
  · subst h
    simp only [Cells.read, if_true, Option.some.injEq] at hi
    simp only [stepsTo, if_true, Option.some.injEq] at hd
    subst hi hd
    exact ⟨h0, hs⟩
  · simp [Cells.read, h] at hi

theorem witness_StepsKeepCapture :
    (CaptureOk nearlyFull ∧ Cells.Wf none nearlyFull.ring ∧ SerialsOk nearlyFull
        ∧ ∃ t, step ((capturing nearlyFull).withPending [.recordRequestArrival]) = .next t)
      ∧ (CaptureOk wrapped ∧ Cells.Wf none wrapped.ring ∧ SerialsOk wrapped
        ∧ ∃ t, step ((capturing wrapped).withPending [.autostart]) = .next t) :=
  ⟨⟨nearlyFull_ok, by decide, single_serials (by decide) rfl (by decide) (by decide), _, rfl⟩,
    ⟨by constructor <;> decide, by decide, single_serials (by decide) rfl (by decide) (by decide), _, rfl⟩⟩

theorem witness_StepsKeepInvariants :
    LegalState live ∧ (∃ t, step live = .next t)
      ∧ (∃ t, step (live.withPending [.openSession .U]) = .next t) :=
  ⟨live_legal, ⟨_, rfl⟩, ⟨_, rfl⟩⟩

end Sys2Proof.Tests
end

section
/-! Proofs about the requests of the Page Resolver (3.6): WINDOW-SET (R50) and WINDOW-READ (R52). First what
the event of a request at its owner answers, for every kind of request; then the laws of the Window Table; then
the two requests. -/

namespace Sys2Proof.Machine

/-! ### A request at its owner -/

theorem ReqKind.code_of_ofCode {c : Byte} {k : ReqKind} (h : ReqKind.ofCode c = some k) : c = k.code := by
  unfold ReqKind.ofCode at h
  split at h <;> cases h <;> exact BitVec.eq_of_toNat_eq ‹_›

/-- A payload that names a kind begins with the code of that kind (11.2). -/
theorem Request.codeByte_of_kind {r : Request} {k : ReqKind} (h : r.kind = some k) : r.codeByte = k.code := by
  unfold Request.kind at h
  unfold Request.codeByte
  cases hp : r.payload with
  | nil => rw [hp] at h; cases h
  | cons c rest => rw [hp] at h; exact ReqKind.code_of_ofCode h

@[simp] theorem State.took_resolver (s : State) (b : Block) : (s.took b).resolver = s.resolver := rfl

section AtOwner

variable {s t : State} {b : Block} {k : ReqKind} {d : Dispatch}
  {carry : Dispatch → State → State × List (List Byte)}

theorem AtOwner.codeByte (h : AtOwner s b k d) : d.request.codeByte = k.code := by
  obtain ⟨-, -, -, hkind⟩ := h
  exact Request.codeByte_of_kind hkind

/-- The event of a request that is next at its owner: it is taken, carried out there and answered (R179). -/
theorem AtOwner.event (h : AtOwner s b k d) :
    s.ifPowered (requestEvent k b carry .owner)
      = answer d.request d.entry d.held (carry d (s.took b)).2 (carry d (s.took b)).1 := by
  obtain ⟨hpow, hnext, hgather, hkind⟩ := h
  rw [State.ifPowered_on hpow]
  exact ownerEvent_takes carry hnext hgather hkind

/-- A refusal at the owner changes nothing but the answer, which is the two header bytes (R179, 11.2). -/
theorem AtOwner.event_refused (h : AtOwner s b k d) {c : ResultCode}
    (hc : carry d (s.took b) = refuse d.request c (s.took b)) :
    s.ifPowered (requestEvent k b carry .owner) = (s.took b).answers d [k.code, c.code] := by
  rw [h.event, hc, ← h.codeByte]
  rfl

/-- A request carried out with an OK reply: its contents follow the two header bytes (R179, 11.2). -/
theorem AtOwner.event_ok (h : AtOwner s b k d) {contents : List Byte}
    (hc : carry d (s.took b) = okWith d.request contents t) :
    s.ifPowered (requestEvent k b carry .owner)
      = t.answers d (k.code :: ResultCode.ok.code :: contents) := by
  rw [h.event, hc, ← h.codeByte]
  rfl

end AtOwner

theorem exec_windowSet (st : Stage) (s : State) : exec (.windowSet st) s = execWindowSet st s := rfl

theorem exec_windowRead (st : Stage) (s : State) : exec (.windowRead st) s = execWindowRead st s := rfl

/-! ### The Window Table -/

/-- The windows after one of them was set (R50). -/
theorem Resolver.window_setWindow {x : Resolver} (h : Cells.Wf Window.atPor x.windows) (w u : Nat)
    (v : Window) : (x.setWindow w v).window u = if u = w then v else x.window u :=
  Cells.read_write h w u v

theorem Resolver.covers_iff (x : Resolver) (p w : Nat) :
    x.covers p w = true ↔ (x.window w).enabled = true ∧ (x.window w).target = p := by
  simp [Resolver.covers]

/-- The window in force over a target is the lowest-numbered enabled one over it (R41). -/
theorem Resolver.inForce_eq_some_iff (x : Resolver) (p : Nat) {w : Nat} (hw : w ≤ 3) :
    x.inForce p = some w ↔ x.covers p w = true ∧ ∀ v, v < w → ¬ x.covers p v = true := by
  have hsearch : x.inForce p = (List.range 4).find? (x.covers p) := rfl
  have hmem : w ∈ List.range 4 := List.mem_range.mpr (by omega)
  simp [hsearch, List.find?_range_eq_some, hmem]

/-- A window is in force when it is enabled and no lower-numbered one is enabled over the same target (R52). -/
theorem Resolver.isInForce_iff (x : Resolver) {w : Nat} (hw : w ≤ 3) :
    x.isInForce w = true ↔ (x.window w).enabled = true ∧
      ∀ v, v < w → ¬ ((x.window v).enabled = true ∧ (x.window v).target = (x.window w).target) := by
  simp only [Resolver.isInForce, Bool.and_eq_true, beq_iff_eq, x.inForce_eq_some_iff _ hw, x.covers_iff]
  tauto

/-! ### WINDOW-SET -/

/-- A field read from bit 0 is the parity of its byte (R196). -/
theorem Request.flag_eq (r : Request) (i : Nat) : r.flag i = (r.field i % 2 == 1) := by
  rw [Request.flag, Request.field, BitVec.getLsbD, Nat.testBit_zero]
  rfl

/-- The three range checks of a WINDOW-SET: window number, target, tuning page (R50). -/
def Request.windowInRange (r : Request) : Prop :=
  r.field 1 ≤ 3 ∧ 1 ≤ r.field 3 ∧ r.field 3 ≤ 10 ∧ r.field 4 ≤ 3

theorem carryWindowSet_refused {d : Dispatch} (s : State) (h : ¬ d.request.windowInRange) :
    carryWindowSet d s = refuse d.request .range s := by
  unfold carryWindowSet
  by_cases hwindow : 3 < d.request.field 1
  · simp [hwindow]
  · by_cases htarget : d.request.field 3 = 0 ∨ 10 < d.request.field 3
    · simp [htarget]
    · have hpage : 3 < d.request.field 4 := by
        unfold Request.windowInRange at h
        omega
      simp [hpage]

theorem carryWindowSet_ok {d : Dispatch} (s : State) (h : d.request.windowInRange) :
    carryWindowSet d s
      = okWith d.request [] (s.withResolver (s.resolver.setWindow (d.request.field 1) d.request.window)) := by
  obtain ⟨hwindow, hlow, hhigh, hpage⟩ := h
  unfold carryWindowSet
  simp only
  rw [if_neg (by omega), if_neg (by omega), if_neg (by omega)]

/-- Settles O13: a WINDOW-SET is refused where one of the three range checks fails, and otherwise writes one
window of the table. -/
theorem windowSetTakesAllFields : Obligations.WindowSetTakesAllFields := by
  intro s d hat hwf w inRange
  refine ⟨fun hout => ?refused, fun hin => ?taken⟩
  case refused =>
    rw [exec_windowSet, execWindowSet, hat.event_refused (carryWindowSet_refused _ hout)]
    rfl
  case taken =>
    refine ⟨s.resolver.setWindow w d.request.window, rfl, rfl, fun v => ?_, ?_⟩
    · rw [Resolver.window_setWindow hwf, Request.window, Request.flag_eq]
    · rw [exec_windowSet, execWindowSet, hat.event_ok (carryWindowSet_ok _ hin)]
      rfl

/-! ### WINDOW-READ -/

theorem carryWindowRead_refused {d : Dispatch} (s : State) (h : 3 < d.request.field 1) :
    carryWindowRead d s = refuse d.request .range s := by
  simp [carryWindowRead, h]

theorem carryWindowRead_ok {d : Dispatch} (s : State) (h : d.request.field 1 ≤ 3) :
    carryWindowRead d s
      = okWith d.request
          [byteOf (d.request.field 1), flagByte (s.resolver.window (d.request.field 1)).enabled,
            byteOf (s.resolver.window (d.request.field 1)).target,
            byteOf (s.resolver.window (d.request.field 1)).page,
            flagByte (s.resolver.isInForce (d.request.field 1)),
            flagByte (s.resolver.pinned (s.resolver.window (d.request.field 1)).page)] s := by
  simp [carryWindowRead, Nat.not_lt.mpr h]

/-- Settles O14: the in-force byte of the reply is the model's own test, which `Resolver.isInForce_iff` says in
the words of R52. -/
theorem windowReadShowsWindow : Obligations.WindowReadShowsWindow := by
  intro s d hat w x inForce
  refine ⟨fun hout => ?refused, fun hin => ⟨s.resolver.isInForce w, s.resolver.isInForce_iff hin, ?carried⟩⟩
  case refused =>
    rw [exec_windowRead, execWindowRead, hat.event_refused (carryWindowRead_refused _ hout)]
    rfl
  case carried =>
    rw [exec_windowRead, execWindowRead, hat.event_ok (carryWindowRead_ok _ hin)]
    rfl

end Sys2Proof.Machine
end


section
/-! Proofs about two requests of the Capture Unit (chapter 7): CAPTURE-CLEAR (R124) and CAPTURE-MODE (R125).
Each is carried out in one of the ways a lemma below says; `AtOwner.event_refused` and `AtOwner.event_ok` turn
that into the next state. -/

namespace Sys2Proof.Machine

theorem exec_captureClear (st : Stage) (s : State) : exec (.captureClear st) s = execCaptureClear st s := rfl

theorem exec_captureMode (st : Stage) (s : State) : exec (.captureMode st) s = execCaptureMode st s := rfl

/-! ### CAPTURE-CLEAR -/

theorem carryClear_refused {s : State} (d : Dispatch)
    (h : s.capture.state = .armed ∨ s.capture.state = .full) :
    carryClear d s = refuse d.request .state s :=
  if_pos h

theorem carryClear_ok {s : State} (d : Dispatch)
    (h : ¬ (s.capture.state = .armed ∨ s.capture.state = .full)) :
    carryClear d s
      = okWith d.request [] (sendNotice .clear (s.withCapture (Capture.atPor s.capture.mode))) :=
  if_neg h

/-! ### CAPTURE-MODE -/

theorem modeOf_eq_none {n : Nat} (h : 1 < n) : modeOf n = none := by
  match n, h with
  | _ + 2, _ => rfl

theorem modeOf_eq_some {n : Nat} (h : n ≤ 1) : modeOf n = some (if n = 0 then .wrap else .fill) := by
  match n, h with
  | 0, _ => rfl
  | 1, _ => rfl

/-- The range check comes first: the state does not matter (R125). -/
theorem carryMode_outOfRange {d : Dispatch} (s : State) (h : 1 < d.request.field 1) :
    carryMode d s = refuse d.request .range s := by
  delta carryMode
  rw [modeOf_eq_none h]

/-- A value in range leaves the check of the state (R125). -/
theorem carryMode_inRange {d : Dispatch} (s : State) (h : d.request.field 1 ≤ 1) :
    carryMode d s =
      if s.capture.state = .armed ∨ s.capture.state = .full then refuse d.request .state s
      else okWith d.request []
        (s.withCapture { s.capture with mode := if d.request.field 1 = 0 then .wrap else .fill }) := by
  delta carryMode
  rw [modeOf_eq_some h]

theorem carryMode_refused {s : State} {d : Dispatch} (hmode : d.request.field 1 ≤ 1)
    (h : s.capture.state = .armed ∨ s.capture.state = .full) :
    carryMode d s = refuse d.request .state s :=
  (carryMode_inRange s hmode).trans (if_pos h)

theorem carryMode_ok {s : State} {d : Dispatch} (hmode : d.request.field 1 ≤ 1)
    (h : ¬ (s.capture.state = .armed ∨ s.capture.state = .full)) :
    carryMode d s
      = okWith d.request []
          (s.withCapture { s.capture with mode := if d.request.field 1 = 0 then .wrap else .fill }) :=
  (carryMode_inRange s hmode).trans (if_neg h)

/-- Settles O27: the state refuses both requests while a capture runs; otherwise CAPTURE-CLEAR leaves the
capture as POR does, in the mode it had, and CAPTURE-MODE writes the mode alone. -/
theorem captureClearAndMode : Obligations.CaptureClearAndMode := by
  intro s d c t running mode
  refine ⟨fun hat => ⟨fun hrun => ?clearRefused, fun hstill => ?cleared⟩,
    fun hat => ⟨fun hout => ?outOfRange, fun hin hrun => ?modeRefused, fun hin hstill => ?modeTaken⟩⟩
  case clearRefused =>
    rw [exec_captureClear, execCaptureClear, hat.event_refused (carryClear_refused d hrun)]
    rfl
  case cleared =>
    rw [exec_captureClear, execCaptureClear, hat.event_ok (carryClear_ok d hstill)]
    rfl
  case outOfRange =>
    rw [exec_captureMode, execCaptureMode, hat.event_refused (carryMode_outOfRange _ hout)]
    rfl
  case modeRefused =>
    rw [exec_captureMode, execCaptureMode, hat.event_refused (carryMode_refused hin hrun)]
    rfl
  case modeTaken =>
    rw [exec_captureMode, execCaptureMode, hat.event_ok (carryMode_ok hin hstill)]
    rfl

end Sys2Proof.Machine
end


section
/-! Proof about a request of the Capture Unit that reads the ring (chapter 8): READ-SLOT (R141). It hands back
the state it was given; what it answers depends on whether the slot is in range and, if so, on whether it holds
a record. -/

namespace Sys2Proof.Machine

theorem exec_readSlot (st : Stage) (s : State) : exec (.readSlot st) s = execReadSlot st s := rfl

/-- A request carried out with one reply frame, whatever its result: the code, the result and the contents
(R179, 11.2). -/
theorem AtOwner.event_reply {s t : State} {b : Block} {k : ReqKind} {d : Dispatch}
    {carry : Dispatch → State → State × List (List Byte)} (h : AtOwner s b k d) {c : ResultCode}
    {contents : List Byte} (hc : carry d (s.took b) = (t, [replyPayload d.request c contents])) :
    s.ifPowered (requestEvent k b carry .owner) = t.answers d (k.code :: c.code :: contents) := by
  rw [h.event, hc, ← h.codeByte]
  rfl

/-! ### READ-SLOT -/

/-- What every reply to a READ-SLOT in range begins with: the slot, the cursors and the unread count (R141). -/
def Capture.slotPlace (c : Capture) (i : Nat) : List Byte :=
  bytesOf 2 i ++ bytesOf 2 c.wc ++ bytesOf 2 c.rc ++ bytesOf 2 c.unread

theorem carryReadSlot_outOfRange {d : Dispatch} (s : State)
    (h : d.request.field2 1 = 0 ∨ 1023 < d.request.field2 1) :
    carryReadSlot d s = refuse d.request .range s :=
  if_pos h

/-- The range check of a READ-SLOT lets the slots of the ring pass (R141). -/
theorem slot_inRange {i : Nat} (hlow : 1 ≤ i) (hhigh : i ≤ 1023) : ¬ (i = 0 ∨ Config.lastSlot < i) := by
  unfold Config.lastSlot
  omega

/-- A slot in range that holds a record is read OK, with the record (R141). -/
theorem carryReadSlot_record {d : Dispatch} {s : State} {x : Record} (hlow : 1 ≤ d.request.field2 1)
    (hhigh : d.request.field2 1 ≤ 1023) (hx : s.capture.slot (d.request.field2 1) = some x) :
    carryReadSlot d s
      = (s, [replyPayload d.request .ok (s.capture.slotPlace (d.request.field2 1) ++ x.bytes)]) := by
  simp only [carryReadSlot, if_neg (slot_inRange hlow hhigh), hx, Capture.slotPlace]

/-- A slot in range that holds no record is answered EMPTY-SLOT (R141). -/
theorem carryReadSlot_empty {d : Dispatch} {s : State} (hlow : 1 ≤ d.request.field2 1)
    (hhigh : d.request.field2 1 ≤ 1023) (hx : s.capture.slot (d.request.field2 1) = none) :
    carryReadSlot d s
      = (s, [replyPayload d.request .emptySlot (s.capture.slotPlace (d.request.field2 1))]) := by
  simp only [carryReadSlot, if_neg (slot_inRange hlow hhigh), hx, Capture.slotPlace]

/-- Settles O30: in each of the three cases the state handed back is the one in which the request was taken, so
that only the answer is new. -/
theorem readSlotMovesNothing : Obligations.ReadSlotMovesNothing := by
  intro s d hat c i place
  refine ⟨fun hout => ?refused, fun hlow hhigh => ?read⟩
  case refused =>
    rw [exec_readSlot, execReadSlot, hat.event_refused (carryReadSlot_outOfRange _ hout)]
    rfl
  case read =>
    cases hslot : c.slot i with
    | some x =>
      rw [exec_readSlot, execReadSlot, hat.event_reply (carryReadSlot_record hlow hhigh hslot)]
      rfl
    | none =>
      rw [exec_readSlot, execReadSlot, hat.event_reply (carryReadSlot_empty hlow hhigh hslot)]
      rfl

end Sys2Proof.Machine
end


section
/-! Proof about a request of the Table Store (chapter 9): STORE-CLEAR-FAULT (R165). First what the store's own
session check says, before and after a request is taken; then the three ways the request is carried out. -/

namespace Sys2Proof.Machine

theorem exec_storeClearFault (st : Stage) (s : State) :
    exec (.storeClearFault st) s = execStoreClearFault st s := rfl

/-! ### The session check at the store -/

/-- The session check passes exactly when a session stands and the requester owns it (R158 step 1). -/
theorem Agent.ownedBy_iff (a : Agent) (node : Byte) :
    a.ownedBy node = true ↔ a.session.map (·.owner) = some node := by
  unfold Agent.ownedBy
  cases a.session with
  | none => simp
  | some x => simp

/-- Taking a request leaves the session as it was, so that the check may be read before or after (R179). -/
theorem State.took_ownedBy_iff (s : State) (b : Block) (node : Byte) :
    (s.took b).agent.ownedBy node = true ↔ s.agent.session.map (·.owner) = some node :=
  s.agent.ownedBy_iff node

/-! ### STORE-CLEAR-FAULT -/

/-- The session check comes first: the engine does not matter (R165). -/
theorem carryClearFault_noSession {d : Dispatch} {s : State}
    (hother : ¬ s.agent.ownedBy d.request.source = true) :
    carryClearFault d s = refuse d.request .noSession s := by
  simp [carryClearFault, hother]

theorem carryClearFault_busy {d : Dispatch} {s : State} (howned : s.agent.ownedBy d.request.source = true)
    (hbusy : s.store.engine ≠ none) :
    carryClearFault d s = refuse d.request .busy s := by
  simp [carryClearFault, howned, hbusy]

theorem carryClearFault_ok {d : Dispatch} {s : State} (howned : s.agent.ownedBy d.request.source = true)
    (hready : s.store.engine = none) :
    carryClearFault d s
      = okWith d.request [s.store.latch.code] (s.withStore { s.store with latch := .none }) := by
  simp [carryClearFault, howned, hready]

/-- Settles O36: a STORE-CLEAR-FAULT is refused where the session check fails or the engine is BUSY, and
otherwise its reply carries the latch as it stood before it was written. -/
theorem storeClearFaultClearsLatch : Obligations.StoreClearFaultClearsLatch := by
  intro s d hat t owns latch
  have hsession : t.agent.ownedBy d.request.source = true ↔ owns := s.took_ownedBy_iff .store _
  refine ⟨fun hother => ?noSession, fun howns hbusy => ?busy, fun howns hready => ?cleared⟩
  case noSession =>
    rw [exec_storeClearFault, execStoreClearFault,
      hat.event_refused (carryClearFault_noSession (mt hsession.mp hother))]
    rfl
  case busy =>
    rw [exec_storeClearFault, execStoreClearFault,
      hat.event_refused (carryClearFault_busy (hsession.mpr howns) hbusy)]
    rfl
  case cleared =>
    rw [exec_storeClearFault, execStoreClearFault,
      hat.event_ok (carryClearFault_ok (hsession.mpr howns) hready)]
    rfl

end Sys2Proof.Machine
end


section
/-! What a command can do, said once: the events of a powered bridge as one relation, and the one induction
that turns "every event keeps it" into "every step keeps it". Then what the Agent's side of an event can change
(`AgentSide`), so that a proof about another block does not walk through the steps of an intake. -/

namespace Sys2Proof.Machine

/-! ### The events of a powered bridge -/

/-- Which block owns a request of another block, and how it carries it out (R179). -/
inductive Carries : Block → ReqKind → (Dispatch → State → State × List (List Byte)) → Prop where
  | tuneWrite : Carries .resolver .tuneWrite carryTuneWrite
  | tuneRead : Carries .resolver .tuneRead carryTuneRead
  | windowSet : Carries .resolver .windowSet carryWindowSet
  | windowRead : Carries .resolver .windowRead carryWindowRead
  | pageRead : Carries .resolver .pageRead carryPageRead
  | storeProgram : Carries .store .storeProgram carryProgram
  | storeErase : Carries .store .storeErase carryErase
  | storeLock : Carries .store .storeLock carryLock
  | storeUnlockErase : Carries .store .storeUnlockErase carryUnlock
  | storeAbort : Carries .store .storeAbort carryAbort
  | storeClearFault : Carries .store .storeClearFault carryClearFault
  | storeStatus : Carries .store .storeStatus carryStoreStatus
  | captureArm : Carries .capture .captureArm carryArm
  | captureStop : Carries .capture .captureStop carryStop
  | captureClear : Carries .capture .captureClear carryClear
  | captureMode : Carries .capture .captureMode carryMode
  | captureMark : Carries .capture .captureMark carryMark
  | readNext : Carries .capture .readNext carryReadNext
  | readBlock : Carries .capture .readBlock carryReadBlock
  | readSlot : Carries .capture .readSlot carryReadSlot
  | setReadCursor : Carries .capture .setReadCursor carrySetCursor

/-- What a command other than POR, POWER_LOSS and LINE_CONDITION_CHANGE does to a powered bridge. -/
inductive Event : (State → State) → Prop where
  | frameArrives (p : Port) (run : List Byte) : Event (frameArrives p run)
  | runBroken (p : Port) (how : RunBreak) : Event (runBroken p how)
  | linkGoesUp (p : Port) : Event (linkGoesUp p)
  | linkGoesDown (p : Port) : Event (linkGoesDown p)
  | syncLost : Event syncLost
  | lookup (p : Port) : Event (lookup p)
  | summaryArrive : Event summaryArrive
  | evaluateHead : Event evaluateHead
  | requestArrive : Event requestArrive
  | armNotice : Event (takeNotice .arm Trigger.arm)
  | freezeNotice (n : Notice) : Event (takeNotice n Trigger.freeze)
  | txCompletes (p : Port) : Event (txCompletes p)
  | intakeOf (k : Option ReqKind) (p : Port) : Event (intakeOf k p)
  | restart (p : Port) (strap : BitVec 2) : Event fun s => intakeOf (some .restart) p (s.withStrap strap)
  | statusPart (b : StatusBlock) : Event (readStatusPart b)
  | countersPart (b : CounterBlock) : Event (readCountersPart b)
  | clearCounters (b : CounterBlock) : Event (clearCountersPart b)
  | restartEgress (p : Port) : Event (restartEgress p)
  | restartClassifier : Event restartClassifier
  | restartResolver : Event restartResolver
  | restartTrigger : Event restartTrigger
  | restartCapture : Event restartCapture
  | restartTimeBase : Event restartTimeBase
  | autostartEvent : Event autostartEvent
  | sessionExpires : Event sessionExpires
  | alertSend : Event alertSend
  | ackExpiry : Event ackExpiry
  | agentGuardFalls : Event agentGuardFalls
  | agentGuardRises : Event agentGuardRises
  | owner {b : Block} {k : ReqKind} {carry : Dispatch → State → State × List (List Byte)}
      (h : Carries b k carry) : Event (ownerEvent b k carry)
  | programErased : Event programErased
  | programWritten : Event programWritten
  | programVerified (held : Bool) : Event (programVerified held)
  | erased (succeeded : Bool) : Event (erased succeeded)
  | lockDone : Event lockDone
  | guardFalls : Event guardFalls
  | guardRises : Event guardRises

/-- The event of a request of another block, at its intake or at its owner. -/
theorem Carries.event {b : Block} {k : ReqKind} {carry : Dispatch → State → State × List (List Byte)}
    (h : Carries b k carry) : ∀ st, Event (requestEvent k b carry st)
  | .intake p => .intakeOf (some k) p
  | .owner => .owner h

/-- Whether a command is one of the three that an unpowered bridge takes too. -/
def Instr.anyPower : Instr → Bool
  | .por .. | .powerLoss | .lineConditionChange .. => true
  | _ => false

/-- A command but those three is an event of a powered bridge. -/
theorem exec_event (c : Instr) (hc : Instr.anyPower c = false) :
    ∃ f, Event f ∧ ∀ s, exec c s = .next (s.ifPowered f) := by
  cases c with
  | por g a n => cases hc
  | powerLoss => cases hc
  | lineConditionChange p l => cases hc
  | frameArrival p run => exact ⟨_, .frameArrives p run, fun _ => rfl⟩
  | runBrokenOff p how => exact ⟨_, .runBroken p how, fun _ => rfl⟩
  | linkUp p => exact ⟨_, .linkGoesUp p, fun _ => rfl⟩
  | linkDown p => exact ⟨_, .linkGoesDown p, fun _ => rfl⟩
  | syncLossExpiry => exact ⟨_, .syncLost, fun _ => rfl⟩
  | lookup p => exact ⟨_, .lookup p, fun _ => rfl⟩
  | summaryArrival => exact ⟨_, .summaryArrive, fun _ => rfl⟩
  | evaluation => exact ⟨_, .evaluateHead, fun _ => rfl⟩
  | recordRequestArrival => exact ⟨_, .requestArrive, fun _ => rfl⟩
  | armNotice => exact ⟨_, .armNotice, fun _ => rfl⟩
  | stopNotice => exact ⟨_, .freezeNotice .stop, fun _ => rfl⟩
  | clearNotice => exact ⟨_, .freezeNotice .clear, fun _ => rfl⟩
  | txComplete p => exact ⟨_, .txCompletes p, fun _ => rfl⟩
  | unknownRequest p => exact ⟨_, .intakeOf none p, fun _ => rfl⟩
  | identify p => exact ⟨_, .intakeOf (some .identify) p, fun _ => rfl⟩
  | status p => exact ⟨_, .intakeOf (some .status) p, fun _ => rfl⟩
  | statusPartRead b => exact ⟨_, .statusPart b, fun _ => rfl⟩
  | counters p => exact ⟨_, .intakeOf (some .counters) p, fun _ => rfl⟩
  | countersPartRead b => exact ⟨_, .countersPart b, fun _ => rfl⟩
  | countersClear p => exact ⟨_, .intakeOf (some .countersClear) p, fun _ => rfl⟩
  | countersPartClear b => exact ⟨_, .clearCounters b, fun _ => rfl⟩
  | restart p strap => exact ⟨_, .restart p strap, fun _ => rfl⟩
  | egressRestart p => exact ⟨_, .restartEgress p, fun _ => rfl⟩
  | classifierRestart => exact ⟨_, .restartClassifier, fun _ => rfl⟩
  | resolverRestart => exact ⟨_, .restartResolver, fun _ => rfl⟩
  | triggerRestart => exact ⟨_, .restartTrigger, fun _ => rfl⟩
  | captureRestart => exact ⟨_, .restartCapture, fun _ => rfl⟩
  | timeBaseRestart => exact ⟨_, .restartTimeBase, fun _ => rfl⟩
  | autostart => exact ⟨_, .autostartEvent, fun _ => rfl⟩
  | openSession p => exact ⟨_, .intakeOf (some .openSession) p, fun _ => rfl⟩
  | closeSession p => exact ⟨_, .intakeOf (some .closeSession) p, fun _ => rfl⟩
  | sessionExpiry => exact ⟨_, .sessionExpires, fun _ => rfl⟩
  | alertAck p => exact ⟨_, .intakeOf (some .alertAck) p, fun _ => rfl⟩
  | alertSend => exact ⟨_, .alertSend, fun _ => rfl⟩
  | ackTimerExpiry => exact ⟨_, .ackExpiry, fun _ => rfl⟩
  | agentGuardFall => exact ⟨_, .agentGuardFalls, fun _ => rfl⟩
  | agentGuardRise => exact ⟨_, .agentGuardRises, fun _ => rfl⟩
  | tuneWrite st => exact ⟨_, Carries.tuneWrite.event st, fun _ => rfl⟩
  | tuneRead st => exact ⟨_, Carries.tuneRead.event st, fun _ => rfl⟩
  | windowSet st => exact ⟨_, Carries.windowSet.event st, fun _ => rfl⟩
  | windowRead st => exact ⟨_, Carries.windowRead.event st, fun _ => rfl⟩
  | pageRead st => exact ⟨_, Carries.pageRead.event st, fun _ => rfl⟩
  | storeProgram st => exact ⟨_, Carries.storeProgram.event st, fun _ => rfl⟩
  | storeErase st => exact ⟨_, Carries.storeErase.event st, fun _ => rfl⟩
  | storeLock st => exact ⟨_, Carries.storeLock.event st, fun _ => rfl⟩
  | storeUnlockErase st => exact ⟨_, Carries.storeUnlockErase.event st, fun _ => rfl⟩
  | storeAbort st => exact ⟨_, Carries.storeAbort.event st, fun _ => rfl⟩
  | storeClearFault st => exact ⟨_, Carries.storeClearFault.event st, fun _ => rfl⟩
  | storeStatus st => exact ⟨_, Carries.storeStatus.event st, fun _ => rfl⟩
  | programErasingComplete => exact ⟨_, .programErased, fun _ => rfl⟩
  | writingComplete => exact ⟨_, .programWritten, fun _ => rfl⟩
  | verifyComplete held => exact ⟨_, .programVerified held, fun _ => rfl⟩
  | eraseComplete succeeded => exact ⟨_, .erased succeeded, fun _ => rfl⟩
  | lockComplete => exact ⟨_, .lockDone, fun _ => rfl⟩
  | storeGuardFall => exact ⟨_, .guardFalls, fun _ => rfl⟩
  | storeGuardRise => exact ⟨_, .guardRises, fun _ => rfl⟩
  | captureArm st => exact ⟨_, Carries.captureArm.event st, fun _ => rfl⟩
  | captureStop st => exact ⟨_, Carries.captureStop.event st, fun _ => rfl⟩
  | captureClear st => exact ⟨_, Carries.captureClear.event st, fun _ => rfl⟩
  | captureMode st => exact ⟨_, Carries.captureMode.event st, fun _ => rfl⟩
  | captureMark st => exact ⟨_, Carries.captureMark.event st, fun _ => rfl⟩
  | readNext st => exact ⟨_, Carries.readNext.event st, fun _ => rfl⟩
  | readBlock st => exact ⟨_, Carries.readBlock.event st, fun _ => rfl⟩
  | readSlot st => exact ⟨_, Carries.readSlot.event st, fun _ => rfl⟩
  | setReadCursor st => exact ⟨_, Carries.setReadCursor.event st, fun _ => rfl⟩

/-- What every command keeps: it is kept by a POR, a loss of power, a change of a line and every event. -/
theorem exec_keeps {P : State → Prop} {c : Instr} {s t : State}
    (por : ∀ g a n, P s → P (autostart (startUp g a n s))) (loss : P s → P (powerOff s))
    (line : ∀ p l, P s → P (lineChange p l s)) (event : ∀ f, Event f → P s → P (f s)) (hs : P s)
    (h : exec c s = .next t) : P t := by
  by_cases hc : Instr.anyPower c = false
  · obtain ⟨f, hf, hx⟩ := exec_event c hc
    rw [hx] at h
    cases h
    exact State.ifPowered_keeps hs (event f hf hs)
  · cases c with
    | por g a n => cases h; exact por g a n hs
    | powerLoss => cases h; exact loss hs
    | lineConditionChange p l => cases h; exact line p l hs
    | _ => exact absurd rfl hc

/-- What every step keeps: the queue of waiting commands does not matter to it, and the passing of time and
every command keep it. -/
theorem step_keeps {P : State → Prop} {s t : State} (queue : ∀ s x, P s → P (s.withPending x))
    (time : ∀ n s, P s → P (elapse n s))
    (por : ∀ g a n s, P s → P (autostart (startUp g a n s))) (loss : ∀ s, P s → P (powerOff s))
    (line : ∀ p l s, P s → P (lineChange p l s)) (event : ∀ f s, Event f → P s → P (f s)) (hs : P s)
    (h : step s = .next t) : P t := by
  unfold step at h
  split at h
  · cases h
    exact State.ifPowered_keeps hs (time _ s hs)
  · next i rest _ =>
    exact exec_keeps (por · · · _) (loss _) (line · · _) (event · _) (queue s rest hs) h

/-! ### The Agent's side of an event -/

/-- What the Agent's side of an event can change: the Agent, the count of free values used, and at a port the
waiting request, the reservation, REQUEST-DROP, and what the placing of replies changes. -/
inductive AgentSide (s : State) : State → Prop where
  | refl : AgentSide s s
  | agent {t : State} (a : Agent) : AgentSide s t → AgentSide s (t.withAgent a)
  | draw {t : State} (n : Nat) : AgentSide s t → AgentSide s (drew n t)
  | receive {t : State} (p : Port) : AgentSide s t → AgentSide s (t.onPort p fun x => { x with request := none })
  | drop {t : State} (p : Port) : AgentSide s t → AgentSide s (dropRequest p t)
  | reserve {t : State} (p : Port) (f : Nat → Nat) :
      AgentSide s t → AgentSide s (t.onPort p fun x => { x with reservation := f x.reservation })
  | place {t : State} (p : Port) (r : Reply) : AgentSide s t → AgentSide s (t.onPort p (PortState.place r))

theorem State.onPort_onPort (s : State) (p : Port) (f g : PortState → PortState) :
    (s.onPort p f).onPort p g = s.onPort p fun x => g (f x) := by
  cases p <;> rfl

theorem PortState.placeAll_cons (r : Reply) (rs : List Reply) (x : PortState) :
    x.placeAll (r :: rs) = (x.place r).placeAll rs := rfl

theorem State.onPort_id (s : State) (p : Port) : (s.onPort p fun x => x) = s := by cases p <;> rfl

/-- Two states agree but for the ports, the Agent, the strap and the free values used. -/
structure SameBlocks (s t : State) : Prop where
  powered : t.powered = s.powered
  pending : t.pending = s.pending
  time : t.time = s.time
  classifier : t.classifier = s.classifier
  resolver : t.resolver = s.resolver
  store : t.store = s.store
  trigger : t.trigger = s.trigger
  capture : t.capture = s.capture

namespace AgentSide

variable {s t : State}

theorem placeAll (p : Port) (rs : List Reply) (h : AgentSide s t) :
    AgentSide s (t.onPort p (PortState.placeAll rs)) := by
  induction rs generalizing t with
  | nil =>
    have : t.onPort p (PortState.placeAll []) = t := t.onPort_id p
    rwa [this]
  | cons r rs ih =>
    have := ih (h.place p r)
    rwa [State.onPort_onPort] at this

theorem placeFrames (p : Port) (fs : List Frame) (h : AgentSide s t) :
    AgentSide s (Machine.placeFrames p fs t) := h.placeAll p _

theorem answer (r : Request) (entry held : Nat) (ps : List (List Byte)) (h : AgentSide s t) :
    AgentSide s (Machine.answer r entry held ps t) := by
  have := (h.reserve r.port (· - held)).placeAll r.port (plainReplies (ps.map (t.agent.buildReply r)))
  rw [State.onPort_onPort] at this
  exact this.agent _

theorem replyUncached (r : Request) (payload : List Byte) (h : AgentSide s t) :
    AgentSide s (Machine.replyUncached r payload t) := h.placeFrames _ _

theorem replyNow (r : Request) (entry : Nat) (c : ResultCode) (contents : List Byte) (h : AgentSide s t) :
    AgentSide s (Machine.replyNow r entry c contents t) := h.answer _ _ _ _

theorem hold (p : Port) (n : Nat) (h : AgentSide s t) : AgentSide s (Machine.hold p n t) := h.reserve p (· + n)

theorem dispatchTo (b : Block) (r : Request) (entry held : Nat) (h : AgentSide s t) :
    AgentSide s (Machine.dispatchTo b r entry held t) := (h.hold _ _).agent _

theorem beginGather (k : GatherKind) (r : Request) (entry held : Nat) (blocks : List Block)
    (h : AgentSide s t) : AgentSide s (Machine.beginGather k r entry held blocks t) := (h.hold _ _).agent _

/-- Step 8 of an intake, request by request (R177). -/
theorem carryOut (k : ReqKind) (r : Request) (entry : Nat) (h : AgentSide s t) :
    AgentSide s (Machine.carryOut k r entry t) := by
  have owner : ∀ b, AgentSide s (Machine.dispatchTo b r entry (dispatchHeld k (t.port r.port).free) t) :=
    fun b => h.dispatchTo b r entry _
  cases k with
  | identify => exact h
  | status => exact ((h.agent _).draw 2).beginGather _ _ _ _ _
  | counters =>
    simp only [Machine.carryOut, carryCounters]
    split
    · exact h.replyNow _ _ _ _
    · exact h.beginGather _ _ _ _ _
  | countersClear => exact h.beginGather _ _ _ _ _
  | restart =>
    simp only [Machine.carryOut, carryRestart]
    split
    · exact h.replyNow _ _ _ _
    · exact (h.place _ _).agent _
  | openSession =>
    simp only [Machine.carryOut, carryOpenSession]
    split
    · exact h.replyNow _ _ _ _
    · exact (h.agent _).replyNow _ _ _ _
  | closeSession => exact (h.agent _).replyNow _ _ _ _
  | alertAck =>
    simp only [Machine.carryOut, carryAlertAck]
    split
    · exact (h.agent _).replyNow _ _ _ _
    · exact h.replyNow _ _ _ _
  | _ => exact owner _

theorem repeatRequest (e : CacheEntry) (r : Request) (h : AgentSide s t) :
    AgentSide s (Machine.repeatRequest e r t) := by
  unfold Machine.repeatRequest
  split
  · exact (h.agent _).drop _
  · split
    · exact (h.agent _).placeFrames _ _
    · exact (h.agent _).drop _

theorem afterEntry (k : ReqKind) (r : Request) (entry : Nat) (h : AgentSide s t) :
    AgentSide s (Machine.afterEntry k r entry t) := by
  unfold Machine.afterEntry
  split
  · exact h.replyNow _ _ _ _
  · split
    · exact h.replyNow _ _ _ _
    · exact h.carryOut _ _ _

theorem intakeKnown (k : ReqKind) (r : Request) (h : AgentSide s t) :
    AgentSide s (Machine.intakeKnown k r t) := by
  unfold Machine.intakeKnown
  split
  · exact h.replyUncached _ _
  · split
    · exact h.repeatRequest _ _
    · exact (h.agent _).afterEntry _ _ _

theorem intakeRequest (r : Request) (h : AgentSide s t) : AgentSide s (Machine.intakeRequest r t) := by
  unfold Machine.intakeRequest
  split
  · exact h.drop _
  · split
    · exact h.replyUncached _ _
    · split
      · unfold carryIdentify
        split <;> exact h.replyUncached _ _
      · exact h.intakeKnown _ _

theorem intake (p : Port) (h : AgentSide s t) : AgentSide s (Machine.intake p t) := by
  unfold Machine.intake
  split
  · exact h
  · exact ((h.receive p).agent _).intakeRequest _

theorem intakeOf (k : Option ReqKind) (p : Port) (h : AgentSide s t) :
    AgentSide s (Machine.intakeOf k p t) := by
  unfold Machine.intakeOf
  split
  · exact h
  · split
    · exact h.intake p
    · exact h

theorem deliverPart (g : Gather) (b : Block) (bytes : List Byte) (h : AgentSide s t) :
    AgentSide s (Machine.deliverPart g b bytes t) := by
  unfold Machine.deliverPart
  simp only
  split
  · exact (h.agent _).answer _ _ _ _
  · exact h.agent _

/-- The reading of a part changes the Agent's side only (R187, R197). -/
theorem partRead {b : Block} {ofKind : GatherKind → Bool} {f : GatherKind → State → State × List Byte}
    (hf : ∀ k u, (f k u).1 = u) : AgentSide s (partEvent b ofKind f s) := by
  rcases partEvent_cases b ofKind f s with h | ⟨d, id, g, -, -, -, -, h⟩
  · rw [h]; exact .refl
  · rw [h, hf]; exact (AgentSide.refl.agent _).deliverPart _ _ _

theorem readStatusPart (b : StatusBlock) : AgentSide s (Machine.readStatusPart b s) :=
  partRead fun _ _ => rfl

theorem readCountersPart (b : CounterBlock) : AgentSide s (Machine.readCountersPart b s) :=
  partRead fun _ _ => rfl

theorem alertSend : AgentSide s (Machine.alertSend s) := by
  unfold Machine.alertSend
  split
  · exact .refl
  · simp only
    split
    · exact (AgentSide.refl.placeFrames _ _).agent _
    · exact .refl

/-- The Agent's side of an event leaves the other blocks as they are. -/
theorem blocks (h : AgentSide s t) : SameBlocks s t := by
  induction h with
  | refl => exact ⟨rfl, rfl, rfl, rfl, rfl, rfl, rfl, rfl⟩
  | agent _ _ ih | draw _ _ ih | receive _ _ ih | drop _ _ ih | reserve _ _ _ ih | place _ _ _ ih =>
    obtain ⟨hpow, hpend, htime, hcl, hre, hst, htr, hca⟩ := ih
    constructor <;> simpa [drew, dropRequest]

/-- Free values are used and never taken back (log entry 12). -/
theorem draws (h : AgentSide s t) : s.draws ≤ t.draws := by
  induction h with
  | refl => exact le_refl _
  | draw n _ ih => exact Nat.le_trans ih (Nat.le_add_right _ _)
  | _ => simpa [dropRequest]

end AgentSide

/-! ### The capture side of an event -/

/-- A write of the Capture Unit keeps the ring in its canonical form (R117). -/
theorem Capture.write_ring_wf {c : Capture} (h : Cells.Wf none c.ring) (st : Stamp) (b : RecordBody) :
    Cells.Wf none (c.write st b).ring := by
  rcases c.write_cases st b with ⟨hx, -, -⟩ | ⟨u, r, o, hx⟩ <;> rw [hx]
  · exact h
  · exact Cells.wf_write h _ _

theorem Capture.advanceBy_ring (k : Nat) (c : Capture) : (c.advanceBy k).ring = c.ring := by
  induction k generalizing c with
  | zero => rfl
  | succ k ih => exact ih c.advance

/-- What the capture side of an event can change: the Capture Unit, its ring kept canonical, a notice sent, an
alert condition raised. -/
inductive CaptureSide (s : State) : State → Prop where
  | refl : CaptureSide s s
  | set {t : State} (c : Capture) (hr : Cells.Wf none t.capture.ring → Cells.Wf none c.ring) :
      CaptureSide s t → CaptureSide s (t.withCapture c)
  | notice {t : State} (n : Notice) : CaptureSide s t → CaptureSide s (sendNotice n t)
  | raise {t : State} (c : AlertCond) : CaptureSide s t → CaptureSide s (raise c t)

namespace CaptureSide

variable {s t : State}

theorem settleFull (h : CaptureSide s t) : CaptureSide s (Machine.settleFull t) := by
  rcases settleFull_cases t with h' | h' <;> rw [h']
  · exact h
  · exact (h.set { t.capture with state := .full } id).raise _

theorem stopWith (reason : StopReason) (h : CaptureSide s t) : CaptureSide s (Machine.stopWith reason t) :=
  (h.set { t.capture with state := .stopped, stopReason := reason } id).notice _

theorem write (st : Stamp) (b : RecordBody) (h : CaptureSide s t) :
    CaptureSide s (t.withCapture (t.capture.write st b)) := h.set _ (Capture.write_ring_wf · st b)

theorem stopCapture (reason : StopReason) (h : CaptureSide s t) :
    CaptureSide s (Machine.stopCapture reason t) := by
  unfold Machine.stopCapture
  split
  · exact (h.write _ _).stopWith _
  · exact h.stopWith _
  · exact h
  · exact h

theorem takeRequest (q : RecordRequest) (h : CaptureSide s t) : CaptureSide s (Machine.takeRequest q t) := by
  unfold Machine.takeRequest
  split
  · have counted : CaptureSide s (t.withCapture (t.capture.writeFrame q)) :=
      h.set _ (Capture.write_ring_wf · q.stamp q.body)
    simp only
    split
    · exact ((counted.write _ _).stopWith _).raise _
    · exact counted.settleFull
  · exact h.set { t.capture with missed := bump t.capture.missed } id
  · exact h
  · exact h

theorem armCapture (limit : Nat) (h : CaptureSide s t) : CaptureSide s (Machine.armCapture limit t) :=
  CaptureSide.settleFull ((h.set _ fun hr => Capture.write_ring_wf (c := { t.capture with
    missed := 0, limitCount := 0, limit := limit, stopReason := .none, state := .armed }) hr _ _).notice _)

theorem autoArm (h : CaptureSide s t) : CaptureSide s (Machine.autoArm t) := by
  unfold Machine.autoArm
  split
  · exact h.armCapture 0
  · exact h

theorem autostart (h : CaptureSide s t) : CaptureSide s (Machine.autostart t) := by
  unfold Machine.autostart
  split
  · exact h.autoArm
  · exact h

theorem resume (h : CaptureSide s t) : CaptureSide s (Machine.resume t) := by
  unfold Machine.resume
  simp only
  split
  · split
    · exact h.set { t.capture with state := .armed } id
    · exact h.set _ fun hr => Capture.write_ring_wf (c := { t.capture with state := .armed }) hr _ _
  · exact h

theorem readOut (k : Nat) (h : CaptureSide s t) : CaptureSide s (Machine.readOut k t) :=
  CaptureSide.resume (h.set _ fun hr => by rwa [Capture.advanceBy_ring])

theorem setCursor (slot unread : Nat) (h : CaptureSide s t) :
    CaptureSide s (Machine.setCursor slot unread t) := by
  have moved := h.set { t.capture with rc := slot, unread := unread } id
  unfold Machine.setCursor
  simp only
  split
  · exact moved.settleFull
  · exact moved.resume

end CaptureSide

/-- A request of the Capture Unit, carried out there, stays on the capture side. -/
theorem Carries.captureSide {k : ReqKind} {carry : Dispatch → State → State × List (List Byte)}
    (h : Carries .capture k carry) (d : Dispatch) (s : State) : CaptureSide s (carry d s).1 := by
  cases h with
  | captureArm =>
    unfold carryArm
    split
    · exact .refl
    · exact CaptureSide.refl.armCapture _
  | captureStop =>
    unfold carryStop
    split
    · exact CaptureSide.refl.stopCapture _
    · exact .refl
  | captureClear =>
    unfold carryClear
    split
    · exact .refl
    · exact (CaptureSide.refl.set s.capture.cleared fun _ => Cells.wf_nil).notice _
  | captureMode =>
    unfold carryMode
    split
    · exact .refl
    · next m _ =>
      split
      · exact .refl
      · exact CaptureSide.refl.set { s.capture with mode := m } id
  | captureMark =>
    unfold carryMark
    split
    · exact .refl
    · exact .refl
    · exact .refl
    · exact (CaptureSide.refl.write _ _).settleFull
  | readNext =>
    unfold carryReadNext
    split
    · exact .refl
    · exact CaptureSide.refl.readOut 1
  | readBlock =>
    unfold carryReadBlock
    simp only
    split
    · exact .refl
    · split
      · exact .refl
      · exact CaptureSide.refl.readOut _
  | readSlot =>
    unfold carryReadSlot
    simp only
    split
    · exact .refl
    · split <;> exact .refl
  | setReadCursor =>
    unfold carrySetCursor
    simp only
    split
    · exact .refl
    · split
      · exact .refl
      · exact CaptureSide.refl.setCursor _ _

/-! ### What a lookup can do -/

/-- What the fate of a frame can change: the Classifier's tables by the writes of a lookup, its counters, the
egress of a port by a frame handed over, a request handed to the Agent, a summary handed over. -/
inductive Fated (s : State) : State → Prop where
  | refl : Fated s s
  | heard {t : State} (node : Byte) (p : Port) : Fated s t → Fated s (t.onClassifier (·.heard node p))
  | counted {t : State} (cls : Nat) : Fated s t → Fated s (t.onClassifier (·.countClass cls))
  | tookSeq {t : State} (node seq : Byte) : Fated s t → Fated s (t.onClassifier (·.tookSeq node seq))
  | bumped {t : State} (f : Classifier → Classifier) (hf : ∀ c, (f c).nodeMap = c.nodeMap ∧
      (f c).nodeState = c.nodeState ∧ (f c).classCount = c.classCount) :
      Fated s t → Fated s (t.onClassifier f)
  | forward {t : State} (p : Port) (f : Frame) : Fated s t → Fated s (forward p f t)
  | hand {t : State} (p : Port) (f : Frame) : Fated s t → Fated s (handRequest p f t)
  | pass {t : State} (y : Option Summary) (hy : y.isSome → s.trigger.state = .running) :
      Fated s t → Fated s (passSummary y t)

namespace Fated

variable {s t : State}

theorem actForward (a : Action) (p : Port) (f : Frame) (h : Fated s t) :
    Fated s (Machine.actForward a p f t) := by
  cases a with
  | pass => exact h.forward p f
  | passRecord => exact h.forward p f
  | hold => exact h.bumped (fun c => { c with holdDiscard := bump c.holdDiscard }) fun _ => ⟨rfl, rfl, rfl⟩
  | recordOnly => exact h

theorem nodeUpdate (nodes : Option (Nat → Word)) (f : Frame) (h : Fated s t) :
    Fated s (t.onClassifier (Machine.nodeUpdate nodes f)) := by
  cases nodes with
  | none => exact h
  | some n => exact h.tookSeq _ _

/-- A summary is made while the Trigger Unit is RUNNING only (R67). -/
theorem summaryOf_running {n m k : Option (Nat → Word)} {cls : Nat} {x : Accepted} {s : State}
    (h : (summaryOf n m k cls x s).isSome) : s.trigger.state = .running := by
  unfold summaryOf at h
  split at h
  · split at h
    · cases h
    · next hx =>
      cases hs : s.trigger.state with
      | running => rfl
      | frozen => exact absurd (.inr hs) hx
  · cases h

theorem lookupMatched (p : Port) (x : Accepted) (e : MatchEntry) :
    Fated s (Machine.lookupMatched p x e s) := by
  have counted : Fated s (s.onClassifier fun c =>
      Machine.nodeUpdate (pageContent s 10) x.frame (c.countClass e.cls)) :=
    (Fated.refl.counted e.cls).nodeUpdate _ _
  have acted := counted.actForward e.action p x.frame
  unfold Machine.lookupMatched
  simp only
  split
  · split
    · exact acted.bumped _ fun _ => ⟨rfl, rfl, rfl⟩
    · exact acted.pass _ summaryOf_running
  · exact acted

theorem lookupUnmatched (p : Port) (f : Frame) : Fated s (Machine.lookupUnmatched p f s) := by
  have counted : Fated s (s.onClassifier fun c => { c with unmatched := bump c.unmatched }) :=
    Fated.refl.bumped _ fun _ => ⟨rfl, rfl, rfl⟩
  unfold Machine.lookupUnmatched
  simp only
  split
  · exact counted.forward p f
  · exact counted.bumped _ fun _ => ⟨rfl, rfl, rfl⟩

theorem lookupFull (p : Port) (x : Accepted) : Fated s (Machine.lookupFull p x s) := by
  unfold Machine.lookupFull
  split
  · exact (Fated.refl.bumped (fun c => { c with unresolved := bump c.unresolved })
      fun _ => ⟨rfl, rfl, rfl⟩).forward _ _
  · split
    · exact lookupMatched _ _ _
    · exact lookupUnmatched _ _

theorem fate (p : Port) (x : Accepted) : Fated s (Machine.fate p x s) := by
  unfold Machine.fate
  simp only
  split
  · split
    · exact Fated.refl.hand _ _
    · split
      · exact (Fated.refl.hand _ _).forward _ _
      · exact Fated.refl.forward _ _
  · exact Fated.refl.forward _ _
  · exact Fated.refl.forward _ _
  · exact Fated.refl.forward _ _
  · split
    · exact Fated.refl.bumped _ fun _ => ⟨rfl, rfl, rfl⟩
    · exact lookupFull _ _

end Fated

/-- The state in which a waiting frame meets its fate: what waits before it was taken, the frame no longer
waits, and its source was heard (R19, R22; log entry 13). -/
def State.lookedUp (s : State) (p : Port) (node : Byte) : State :=
  ((clearWay p s).onPort p fun y => { y with accepted := none }).onClassifier (·.heard node p)

/-- What a lookup can do: nothing, or the fate of the frame that waits (R19). -/
theorem lookup_cases (p : Port) (s : State) :
    lookup p s = s ∨ ∃ x, (s.port p).accepted = some x ∧
      lookup p s = fate p x (s.lookedUp p x.frame.src) := by
  unfold lookup
  split
  · exact .inl rfl
  · next x hx => exact .inr ⟨x, hx, rfl⟩

/-- What the end of a run can do (R6): nothing; the line condition and a receive counter of the port; or, after
a waiting lookup, an acceptance. -/
theorem frameArrives_cases (p : Port) (run : List Byte) (s : State) :
    frameArrives p run s = s ∨
      (∃ f e : PortState → Count, frameArrives p run s = s.onPort p fun x =>
        { x.lineTo .idle with rxFormatErr := f x, rxCheckErr := e x }) ∨
      ∃ f, frameArrives p run s = accept p f (lookup p (s.onPort p (·.lineTo .idle))) := by
  unfold frameArrives judgeAt
  split
  · exact .inl rfl
  · simp only
    split
    · split
      · exact .inr (.inl ⟨fun x => bump x.rxFormatErr, fun x => x.rxCheckErr, State.onPort_onPort _ _ _ _⟩)
      · exact .inr (.inl ⟨fun x => x.rxFormatErr, fun x => bump x.rxCheckErr, State.onPort_onPort _ _ _ _⟩)
      · exact .inr (.inr ⟨_, rfl⟩)
    · exact .inr (.inl ⟨fun x => x.rxFormatErr, fun x => x.rxCheckErr, rfl⟩)

end Sys2Proof.Machine
end


section
/-! Proof that every step keeps the tables canonical and the Trigger Unit within its room: block by block, what
each operation of a block keeps, and then event by event. -/

namespace Sys2Proof.Machine

/-! ### Canonical tables, block by block -/

/-- The tables of the Classifier in canonical form. -/
def Classifier.TablesWf (c : Classifier) : Prop :=
  Cells.Wf Side.unknown c.nodeMap ∧ Cells.Wf none c.nodeState ∧ Cells.Wf 0 c.classCount

/-- The tables of the Page Resolver in canonical form. -/
def Resolver.TablesWf (x : Resolver) : Prop :=
  Cells.Wf 0 x.tuning ∧ Cells.Wf Window.atPor x.windows ∧ Cells.Wf false x.pins

/-- The tables of the Table Store in canonical form. -/
def Store.TablesWf (t : Store) : Prop :=
  Cells.Wf PageState.erased t.pageState ∧ Cells.Wf false t.locked ∧ Cells.Wf 0 t.eraseCount ∧
    Cells.Wf 0 t.words

/-- The tables of the Trigger Unit in canonical form. -/
def Trigger.TablesWf (t : Trigger) : Prop := Cells.Wf CondState.atArm t.conds ∧ Cells.Wf false t.seen

theorem tablesOk_iff (s : State) : TablesOk s ↔ s.classifier.TablesWf ∧ s.resolver.TablesWf ∧
    s.store.TablesWf ∧ s.trigger.TablesWf ∧ Cells.Wf none s.capture.ring := by
  constructor
  · rintro ⟨hmap, hstate, hcount, htuning, hwin, hpins, hpage, hlock, herase, hwords, hconds, hseen, hring⟩
    exact ⟨⟨hmap, hstate, hcount⟩, ⟨htuning, hwin, hpins⟩, ⟨hpage, hlock, herase, hwords⟩,
      ⟨hconds, hseen⟩, hring⟩
  · rintro ⟨⟨hmap, hstate, hcount⟩, ⟨htuning, hwin, hpins⟩, ⟨hpage, hlock, herase, hwords⟩,
      ⟨hconds, hseen⟩, hring⟩
    exact ⟨hmap, hstate, hcount, htuning, hwin, hpins, hpage, hlock, herase, hwords, hconds, hseen, hring⟩

section Blocks

variable {c : Classifier} {x : Resolver} {t : Store} {u : Trigger}

theorem Classifier.TablesWf.heard (h : c.TablesWf) (node : Byte) (p : Port) : (c.heard node p).TablesWf :=
  ⟨Cells.wf_write h.1 _ _, h.2⟩

theorem Classifier.TablesWf.countClass (h : c.TablesWf) (cls : Nat) : (c.countClass cls).TablesWf :=
  ⟨h.1, h.2.1, Cells.wf_write h.2.2 _ _⟩

theorem Classifier.TablesWf.tookSeq (h : c.TablesWf) (node seq : Byte) : (c.tookSeq node seq).TablesWf :=
  ⟨h.1, Cells.wf_write h.2.1 _ _, h.2.2⟩

theorem Classifier.TablesWf.portDown (h : c.TablesWf) (p : Port) : (c.portDown p).TablesWf :=
  ⟨Cells.wf_forget h.1 _, h.2⟩

theorem Classifier.TablesWf.restarted (h : c.TablesWf) : c.restarted.TablesWf :=
  ⟨Cells.wf_nil, Cells.wf_nil, h.2.2⟩

theorem Classifier.TablesWf.cleared (h : c.TablesWf) : c.cleared.TablesWf := ⟨h.1, h.2.1, Cells.wf_nil⟩

theorem Classifier.atPor_tablesWf : Classifier.atPor.TablesWf := ⟨Cells.wf_nil, Cells.wf_nil, Cells.wf_nil⟩

theorem Resolver.TablesWf.tune (h : x.TablesWf) (n o : Nat) (ws : List Word) : (x.tune n o ws).TablesWf :=
  ⟨Cells.wf_writeAll h.1 _ _, h.2⟩

theorem Resolver.TablesWf.setWindow (h : x.TablesWf) (w : Nat) (v : Window) : (x.setWindow w v).TablesWf :=
  ⟨h.1, Cells.wf_write h.2.1 _ _, h.2.2⟩

theorem Resolver.TablesWf.setPin (h : x.TablesWf) (n : Nat) (b : Bool) : (x.setPin n b).TablesWf :=
  ⟨h.1, h.2.1, Cells.wf_write h.2.2 _ _⟩

theorem Resolver.TablesWf.unpin (h : x.TablesWf) : ∀ source, (x.unpin source).TablesWf
  | none => h
  | some n => h.setPin n false

theorem Resolver.TablesWf.restart (h : x.TablesWf) : x.restart.TablesWf :=
  (((h.setWindow _ _).setWindow _ _).setWindow _ _).setWindow _ _

theorem Resolver.atPor_tablesWf : Resolver.atPor.TablesWf := ⟨Cells.wf_nil, Cells.wf_nil, Cells.wf_nil⟩

theorem Store.TablesWf.ended (h : t.TablesWf) (o : Operation) (e : Ending) (m : Micros) :
    (t.ended o e m).TablesWf := h

theorem Store.TablesWf.begin (h : t.TablesWf) (k : OpKind) (p : Nat) (source : Option Nat) :
    (t.begin k p source).TablesWf := h

theorem Store.TablesWf.condemn (h : t.TablesWf) (p : Nat) : (t.condemn p).TablesWf :=
  ⟨Cells.wf_write h.1 _ _, h.2.1, Cells.wf_write h.2.2.1 _ _, h.2.2.2⟩

theorem Store.TablesWf.wipe (h : t.TablesWf) (p : Nat) : (t.wipe p).TablesWf :=
  ⟨h.1, h.2.1, h.2.2.1, Cells.wf_eraseRange h.2.2.2 _ _⟩

theorem Store.TablesWf.fillPage (h : t.TablesWf) (p : Nat) (ws : List Word) : (t.fillPage p ws).TablesWf :=
  ⟨h.1, h.2.1, h.2.2.1, Cells.wf_writeAll h.2.2.2 _ _⟩

theorem Store.TablesWf.setState (h : t.TablesWf) (p : Nat) (v : PageState) : (t.setState p v).TablesWf :=
  ⟨Cells.wf_write h.1 _ _, h.2⟩

theorem Store.TablesWf.setLock (h : t.TablesWf) (p : Nat) (b : Bool) : (t.setLock p b).TablesWf :=
  ⟨h.1, Cells.wf_write h.2.1 _ _, h.2.2⟩

theorem Trigger.TablesWf.arrive (h : u.TablesWf) : u.arrive.TablesWf := by
  unfold Trigger.arrive
  split
  · exact h
  · simp only
    split
    · exact h
    · split <;> exact h

theorem Trigger.TablesWf.evaluate (h : u.TablesWf) (y : Summary) (rest : List Summary) :
    (u.evaluate y rest).TablesWf := by
  refine ⟨Cells.wf_writeAll h.1 _ _, ?_⟩
  simp only [Trigger.evaluate, Trigger.seenAfter]
  split
  · exact Cells.wf_write h.2 _ _
  · exact h.2

theorem Trigger.arm_tablesWf (u : Trigger) : u.arm.TablesWf := ⟨Cells.wf_nil, Cells.wf_nil⟩

end Blocks

/-! ### Canonical tables at the bridge -/

namespace TablesOk

variable {s t : State}

theorem onPort (h : TablesOk s) (p : Port) (f : PortState → PortState) : TablesOk (s.onPort p f) := by
  simpa [tablesOk_iff] using h

theorem withTime (h : TablesOk s) (x : TimeBase) : TablesOk (s.withTime x) := by
  simpa [tablesOk_iff] using h

theorem withAgent (h : TablesOk s) (x : Agent) : TablesOk (s.withAgent x) := by
  simpa [tablesOk_iff] using h

theorem raise (h : TablesOk s) (c : AlertCond) : TablesOk (Machine.raise c s) := h.withAgent _

theorem withClassifier (h : TablesOk s) {x : Classifier} (hx : x.TablesWf) : TablesOk (s.withClassifier x) := by
  rw [tablesOk_iff] at h ⊢
  exact ⟨hx, h.2⟩

theorem withResolver (h : TablesOk s) {x : Resolver} (hx : x.TablesWf) : TablesOk (s.withResolver x) := by
  rw [tablesOk_iff] at h ⊢
  exact ⟨h.1, hx, h.2.2⟩

theorem withStore (h : TablesOk s) {x : Store} (hx : x.TablesWf) : TablesOk (s.withStore x) := by
  rw [tablesOk_iff] at h ⊢
  exact ⟨h.1, h.2.1, hx, h.2.2.2⟩

theorem withTrigger (h : TablesOk s) {x : Trigger} (hx : x.TablesWf) : TablesOk (s.withTrigger x) := by
  rw [tablesOk_iff] at h ⊢
  exact ⟨h.1, h.2.1, h.2.2.1, hx, h.2.2.2.2⟩

theorem withCapture (h : TablesOk s) {x : Capture} (hx : Cells.Wf none x.ring) :
    TablesOk (s.withCapture x) := by
  rw [tablesOk_iff] at h ⊢
  exact ⟨h.1, h.2.1, h.2.2.1, h.2.2.2.1, hx⟩

theorem classifierWf (h : TablesOk s) : s.classifier.TablesWf := ((tablesOk_iff s).mp h).1
theorem resolverWf (h : TablesOk s) : s.resolver.TablesWf := ((tablesOk_iff s).mp h).2.1
theorem storeWf (h : TablesOk s) : s.store.TablesWf := ((tablesOk_iff s).mp h).2.2.1
theorem triggerWf (h : TablesOk s) : s.trigger.TablesWf := ((tablesOk_iff s).mp h).2.2.2.1

theorem elapse (h : TablesOk s) (n : Nat) : TablesOk (Machine.elapse n s) := by
  rw [tablesOk_iff] at h ⊢
  exact h

theorem endOperation (h : TablesOk s) (o : Operation) (e : Ending) :
    TablesOk (Machine.endOperation o e s) :=
  (h.withStore (h.storeWf.ended o e _)).withResolver (h.resolverWf.unpin o.source)

theorem nextPhase (h : TablesOk s) (o : Operation) (p : Phase) : TablesOk (Machine.nextPhase o p s) :=
  h.withStore (x := { s.store with engine := some { o with phase := p, left := p.duration } }) h.storeWf

theorem agentSide (h : TablesOk s) (ht : AgentSide s t) : TablesOk t := by
  have hb := ht.blocks
  rw [tablesOk_iff] at h ⊢
  rwa [hb.classifier, hb.resolver, hb.store, hb.trigger, hb.capture]

theorem captureSide (h : TablesOk s) (ht : CaptureSide s t) : TablesOk t := by
  induction ht with
  | refl => exact h
  | set c hr _ ih => exact ih.withCapture (hr ih.ring)
  | notice n _ ih => exact ih.withTrigger ih.triggerWf
  | raise c _ ih => exact ih.raise c

theorem fated (h : TablesOk s) (ht : Fated s t) : TablesOk t := by
  induction ht with
  | refl => exact h
  | heard node p _ ih => exact ih.withClassifier (ih.classifierWf.heard node p)
  | counted cls _ ih => exact ih.withClassifier (ih.classifierWf.countClass cls)
  | tookSeq node seq _ ih => exact ih.withClassifier (ih.classifierWf.tookSeq node seq)
  | @bumped t f hf _ ih =>
    obtain ⟨hmap, hstate, hcount⟩ := hf t.classifier
    refine ih.withClassifier ?_
    unfold Classifier.TablesWf
    rw [hmap, hstate, hcount]
    exact ih.classifierWf
  | forward p f _ ih => exact ih.onPort _ _
  | hand p f _ ih => exact ih.onPort _ _
  | pass y _ _ ih =>
    cases y with
    | none => exact ih
    | some y => exact ih.withTrigger ih.triggerWf

theorem summaryArrive (h : TablesOk s) : TablesOk (Machine.summaryArrive s) :=
  h.withTrigger h.triggerWf.arrive

theorem lookup (h : TablesOk s) (p : Port) : TablesOk (Machine.lookup p s) := by
  rcases lookup_cases p s with h' | ⟨x, -, h'⟩ <;> rw [h']
  · exact h
  · have way : TablesOk (clearWay p s) := (h.agentSide (AgentSide.refl.intake p)).summaryArrive
    have taken := way.onPort p fun y => { y with accepted := none }
    exact (taken.withClassifier (taken.classifierWf.heard _ p)).fated (Fated.fate p x)

theorem frameArrives (h : TablesOk s) (p : Port) (run : List Byte) : TablesOk (Machine.frameArrives p run s) := by
  rcases frameArrives_cases p run s with h' | ⟨f, e, h'⟩ | ⟨f, h'⟩ <;> rw [h']
  · exact h
  · exact h.onPort p _
  · exact (((h.onPort p _).lookup p).onPort p _).withTime _

theorem phaseEvent {ends : Operation → Bool} {f : Operation → State → State}
    (hf : ∀ o s, TablesOk s → TablesOk (f o s)) (h : TablesOk s) : TablesOk (Machine.phaseEvent ends f s) := by
  rcases phaseEvent_cases ends f s with h' | ⟨o, -, -, h'⟩ <;> rw [h']
  · exact h
  · exact hf o _ (h.elapse _)

theorem restartEvent {due : Restarting → Bool} {mark : Restarting → Restarting} {act : State → State}
    (ha : ∀ s, TablesOk s → TablesOk (act s)) (h : TablesOk s) :
    TablesOk (Machine.restartEvent due mark act s) := by
  rcases restartEvent_cases due mark act s with h' | ⟨rs, -, h'⟩ <;> rw [h']
  · exact h
  · exact ha _ (h.withAgent _)

theorem partEvent {b : Block} {ofKind : GatherKind → Bool} {f : GatherKind → State → State × List Byte}
    (hf : ∀ k s, TablesOk s → TablesOk (f k s).1) (h : TablesOk s) :
    TablesOk (Machine.partEvent b ofKind f s) := by
  rcases partEvent_cases b ofKind f s with h' | ⟨d, id, g, -, -, -, -, h'⟩ <;> rw [h']
  · exact h
  · exact (hf _ _ (h.withAgent _)).agentSide (AgentSide.refl.deliverPart _ _ _)

theorem takeNotice {n : Notice} {f : Trigger → Trigger} (hf : ∀ u : Trigger, u.TablesWf → (f u).TablesWf)
    (h : TablesOk s) : TablesOk (Machine.takeNotice n f s) := by
  unfold Machine.takeNotice
  split
  · split
    · exact h.withTrigger (hf _ h.triggerWf)
    · exact h
  · exact h

theorem carryOperation {k : OpKind} {refusal : Request → State → Option ResultCode}
    {accept : Request → State → State} (ha : ∀ r s, TablesOk s → TablesOk (accept r s)) (h : TablesOk s)
    (d : Dispatch) : TablesOk (Machine.carryOperation k refusal accept d s).1 := by
  unfold Machine.carryOperation
  simp only
  split
  · exact h
  · split
    · exact h
    · exact ha _ _ h

/-- A request of another block, carried out at its owner, keeps the tables canonical. -/
theorem carry {b : Block} {k : ReqKind} {carry : Dispatch → State → State × List (List Byte)}
    (hc : Carries b k carry) (h : TablesOk s) (d : Dispatch) : TablesOk (carry d s).1 := by
  cases hc with
  | tuneWrite =>
    unfold carryTuneWrite
    simp only
    split
    · exact h
    · split
      · exact h
      · exact h.withResolver (h.resolverWf.tune _ _ _)
  | tuneRead =>
    unfold carryTuneRead
    simp only
    split <;> exact h
  | windowSet =>
    by_cases hin : d.request.windowInRange
    · rw [carryWindowSet_ok s hin]
      exact h.withResolver (h.resolverWf.setWindow _ _)
    · rw [carryWindowSet_refused s hin]
      exact h
  | windowRead =>
    unfold carryWindowRead
    simp only
    split <;> exact h
  | pageRead =>
    unfold carryPageRead
    simp only
    split
    · exact h
    · split <;> exact h
  | storeProgram =>
    exact carryOperation (accept := acceptProgram) (fun r s h =>
      (h.withStore ((h.storeWf.condemn _).begin _ _ _)).withResolver (h.resolverWf.setPin _ _)) h d
  | storeErase =>
    exact carryOperation (accept := acceptErase) (fun r s h =>
      h.withStore ((h.storeWf.condemn _).begin _ _ _)) h d
  | storeLock =>
    exact carryOperation (accept := acceptLock) (fun r s h => h.withStore (h.storeWf.begin _ _ _)) h d
  | storeUnlockErase =>
    exact carryOperation (accept := acceptUnlock) (fun r s h =>
      h.withStore ((h.storeWf.condemn _).begin _ _ _)) h d
  | storeAbort =>
    unfold carryAbort
    simp only
    split
    · exact h
    · split
      · exact h
      · exact h.endOperation _ _
  | storeClearFault =>
    unfold carryClearFault
    simp only
    split
    · exact h
    · split
      · exact h
      · exact h.withStore h.storeWf
  | storeStatus => exact h.agentSide (AgentSide.refl.draw _)
  | captureArm => exact h.captureSide (Carries.captureArm.captureSide d s)
  | captureStop => exact h.captureSide (Carries.captureStop.captureSide d s)
  | captureClear => exact h.captureSide (Carries.captureClear.captureSide d s)
  | captureMode => exact h.captureSide (Carries.captureMode.captureSide d s)
  | captureMark => exact h.captureSide (Carries.captureMark.captureSide d s)
  | readNext => exact h.captureSide (Carries.readNext.captureSide d s)
  | readBlock => exact h.captureSide (Carries.readBlock.captureSide d s)
  | readSlot => exact h.captureSide (Carries.readSlot.captureSide d s)
  | setReadCursor => exact h.captureSide (Carries.setReadCursor.captureSide d s)

/-- Every event of a powered bridge keeps the tables canonical. -/
theorem event {f : State → State} (hf : Event f) (h : TablesOk s) : TablesOk (f s) := by
  cases hf with
  | frameArrives p run => exact h.frameArrives p run
  | runBroken p how => exact h.onPort p _
  | linkGoesUp p =>
    unfold linkGoesUp
    split
    · exact (h.elapse _).onPort p _
    · exact h
  | linkGoesDown p =>
    unfold linkGoesDown
    split
    · next n _ _ =>
      have down := (h.elapse n).onPort p fun x =>
        PortState.egressDown { x with link := .down, awaitIdle := false, measure := none }
      exact down.withClassifier (down.classifierWf.portDown p)
    · exact h
  | syncLost =>
    unfold syncLost
    split
    · exact h
    · exact ((h.elapse _).withTime _).raise _
  | lookup p => exact h.lookup p
  | summaryArrive => exact h.summaryArrive
  | evaluateHead =>
    unfold evaluateHead
    split
    · exact h.withTrigger (h.triggerWf.evaluate _ _)
    · exact h
  | requestArrive =>
    unfold requestArrive
    split
    · exact h
    · have taken : TablesOk (s.withTrigger { s.trigger with handOff := none }) := h.withTrigger h.triggerWf
      exact taken.captureSide (CaptureSide.refl.takeRequest _)
  | armNotice => exact h.takeNotice fun u _ => u.arm_tablesWf
  | freezeNotice n => exact h.takeNotice fun u hu => hu
  | txCompletes p =>
    unfold txCompletes
    split
    · exact h
    · exact (h.elapse _).onPort p _
  | intakeOf k p => exact h.agentSide (AgentSide.refl.intakeOf k p)
  | restart p strap =>
    have hs : TablesOk (s.withStrap strap) := by simpa [tablesOk_iff] using h
    exact hs.agentSide (AgentSide.refl.intakeOf (some .restart) p)
  | statusPart b => exact h.agentSide (AgentSide.readStatusPart b)
  | countersPart b => exact h.agentSide (AgentSide.readCountersPart b)
  | clearCounters b =>
    refine h.partEvent fun k s hs => ?_
    cases b with
    | port p => exact hs.onPort p _
    | classifier => exact hs.withClassifier hs.classifierWf.cleared
    | trigger => exact hs.withTrigger hs.triggerWf
  | restartEgress p => exact h.restartEvent fun s hs => hs.onPort p _
  | restartClassifier => exact h.restartEvent fun s hs => hs.withClassifier hs.classifierWf.restarted
  | restartResolver => exact h.restartEvent fun s hs => hs.withResolver hs.resolverWf.restart
  | restartTrigger => exact h.restartEvent fun s hs => hs.withTrigger hs.triggerWf
  | restartCapture => exact h.restartEvent fun s hs => hs.captureSide (CaptureSide.refl.stopCapture _)
  | restartTimeBase => exact h.restartEvent fun s hs => hs.withTime _
  | autostartEvent =>
    unfold autostartEvent
    split
    · split
      · exact (h.withAgent _).captureSide CaptureSide.refl.autostart
      · exact h
    · exact h
  | sessionExpires =>
    unfold sessionExpires
    split
    · exact h
    · exact ((h.elapse _).withAgent _).raise _
  | alertSend => exact h.agentSide AgentSide.alertSend
  | ackExpiry =>
    unfold ackExpiry
    split
    · exact h
    · split
      · exact h
      · exact (h.elapse _).withAgent _
  | agentGuardFalls => exact h.withAgent _
  | agentGuardRises => exact h.withAgent _
  | @owner b k carry hc =>
    rcases ownerEvent_cases b k carry s with h' | ⟨d, -, -, -, h'⟩ <;> rw [h']
    · exact h
    · exact (TablesOk.carry hc (h.withAgent _) d).agentSide (AgentSide.refl.answer _ _ _ _)
  | programErased => exact h.phaseEvent fun o s hs => (hs.withStore (hs.storeWf.wipe _)).nextPhase o _
  | programWritten =>
    exact h.phaseEvent fun o s hs => (hs.withStore (hs.storeWf.fillPage _ _)).nextPhase o _
  | programVerified held =>
    refine h.phaseEvent fun o s hs => ?_
    split
    · exact ((hs.withStore (hs.storeWf.setState _ _)).endOperation _ _).raise _
    · exact (hs.endOperation _ _).raise _
  | erased succeeded =>
    refine h.phaseEvent fun o s hs => ?_
    split
    · exact ((hs.withStore (((hs.storeWf.wipe _).setState _ _).setLock _ _)).endOperation _ _).raise _
    · exact (hs.endOperation _ _).raise _
  | lockDone =>
    exact h.phaseEvent fun o s hs => ((hs.withStore (hs.storeWf.setLock _ _)).endOperation _ _).raise _
  | guardFalls =>
    have low : TablesOk (s.withStore { s.store with guard := false }) := h.withStore h.storeWf
    unfold guardFalls
    simp only
    split
    · exact low
    · exact (low.endOperation _ _).raise _
  | guardRises => exact h.withStore h.storeWf

theorem startUp (h : TablesOk s) (g : Bool) (a : BitVec 2) (n : Nat) : TablesOk (Machine.startUp g a n s) :=
  (tablesOk_iff _).mpr ⟨Classifier.atPor_tablesWf, Resolver.atPor_tablesWf, h.storeWf,
    ⟨Cells.wf_nil, Cells.wf_nil⟩, Cells.wf_nil⟩

theorem powerOff (h : TablesOk s) : TablesOk (Machine.powerOff s) :=
  (tablesOk_iff _).mpr ⟨Classifier.atPor_tablesWf, Resolver.atPor_tablesWf, h.storeWf,
    ⟨Cells.wf_nil, Cells.wf_nil⟩, Cells.wf_nil⟩

theorem lineChange (h : TablesOk s) (p : Port) (l : LineCond) : TablesOk (Machine.lineChange p l s) := by
  unfold Machine.lineChange
  split <;> exact h.onPort p _

/-- Every step keeps every table canonical (log entry 26). -/
theorem step (h : TablesOk s) (ht : Machine.step s = .next t) : TablesOk t :=
  step_keeps (fun s x h => by simpa [tablesOk_iff] using h) (fun n s h => h.elapse n)
    (fun g a n s h => (h.startUp g a n).captureSide CaptureSide.refl.autostart) (fun s h => h.powerOff)
    (fun p l s h => h.lineChange p l) (fun f s hf h => h.event hf) h ht

end TablesOk
end Sys2Proof.Machine
end


section
/-! The course of an event: every event of a powered bridge as a sequence of moves, each of which says what it
keeps of the egress sides, the Trigger Unit and the Agent. An invariant is then proved move by move and not
event by event. -/

namespace Sys2Proof.Machine

/-! ### The egress side of a port -/

/-- A port's egress side in order but for a frame that may wait at an idle transmitter: what the Arbiter finds
(R28). -/
structure EgressReady (x : PortState) : Prop where
  transitRoom : x.transit.length ≤ 8
  passover : x.passover ≤ 3
  down : x.link = .down → x.transit = [] ∧ x.reply = [] ∧ x.sending = none ∧ x.passover = 0

theorem EgressOk.ready {x : PortState} (h : EgressOk x) : EgressReady x := ⟨h.transitRoom, h.passover, h.down⟩

/-- The Arbiter leaves no frame waiting at an idle transmitter (R28, R29). -/
theorem EgressReady.choice {x : PortState} (h : EgressReady x) (hup : x.link = .up) : EgressOk x.choice := by
  obtain ⟨hroom, hpass, -⟩ := h
  have notDown : x.link ≠ .down := by rw [hup]; decide
  unfold PortState.choice
  split
  · next ht hr => exact ⟨hroom, hpass, fun hd => absurd hd notDown, fun _ _ => ⟨ht, hr⟩⟩
  · next f rest ht hr =>
    rw [ht] at hroom
    exact ⟨Nat.le_of_succ_le hroom, hpass, fun hd => absurd hd notDown, nofun⟩
  · exact ⟨hroom, Nat.zero_le _, fun hd => absurd hd notDown, nofun⟩
  · next f rest r rrest ht hr =>
    rw [ht] at hroom
    split
    · next hlt => exact ⟨Nat.le_of_succ_le hroom, hlt, fun hd => absurd hd notDown, nofun⟩
    · exact ⟨by rw [ht]; exact hroom, Nat.zero_le _, fun hd => absurd hd notDown, nofun⟩

theorem EgressReady.arbitrate {x : PortState} (h : EgressReady x) : EgressOk x.arbitrate := by
  unfold PortState.arbitrate
  split
  · next hc => exact h.choice hc.1
  · next hc => exact ⟨h.transitRoom, h.passover, h.down, fun hup hs => absurd ⟨hup, hs⟩ hc⟩

/-- A frame placed on the Reply Queue of a port in order leaves it in order (R27). -/
theorem EgressOk.place {x : PortState} (h : EgressOk x) (r : Reply) : EgressOk (x.place r) := by
  unfold PortState.place
  split
  · exact ⟨h.transitRoom, h.passover, h.down, h.idle⟩
  · next hup => exact EgressReady.arbitrate ⟨h.transitRoom, h.passover, fun hd => by simp [hup] at hd⟩

/-- A frame handed to the Transit Queue of a port in order leaves it in order (R25). -/
theorem EgressOk.handTransit {x : PortState} (h : EgressOk x) (f : Frame) : EgressOk (x.handTransit f) := by
  unfold PortState.handTransit
  split
  · exact ⟨h.transitRoom, h.passover, h.down, h.idle⟩
  · next hup =>
    split
    · exact ⟨h.transitRoom, h.passover, h.down, h.idle⟩
    · next hroom =>
      refine EgressReady.arbitrate ⟨?_, h.passover, fun hd => by simp [hup] at hd⟩
      simp only [Config.transitRoom] at hroom
      simp only [List.length_append, List.length_singleton]
      omega

/-- The Arbiter takes at most one frame from the Reply Queue and leaves the reservation. -/
theorem PortState.arbitrate_reply (x : PortState) :
    x.arbitrate.reply.length ≤ x.reply.length ∧ x.arbitrate.reservation = x.reservation := by
  unfold PortState.arbitrate PortState.choice
  split
  · split
    · exact ⟨le_refl _, rfl⟩
    · exact ⟨le_refl _, rfl⟩
    · next r rest ht hr => exact ⟨by rw [hr]; exact Nat.le_succ _, rfl⟩
    · next f frest r rrest ht hr =>
      split
      · exact ⟨le_refl _, rfl⟩
      · exact ⟨by rw [hr]; exact Nat.le_succ _, rfl⟩
  · exact ⟨le_refl _, rfl⟩

/-- A change of a port that keeps its egress side in order, adds no frame to its Reply Queue and leaves its
reservation. -/
structure PortMove (f : PortState → PortState) : Prop where
  egress : ∀ x, EgressOk x → EgressOk (f x)
  reply : ∀ x, (f x).reply.length ≤ x.reply.length
  reservation : ∀ x, (f x).reservation = x.reservation

namespace PortMove

theorem lineTo (c : LineCond) : PortMove (·.lineTo c) :=
  ⟨fun _ h => ⟨h.transitRoom, h.passover, h.down, h.idle⟩, fun _ => le_refl _, fun _ => rfl⟩

/-- A move chosen by a look at the port is a move. -/
theorem ite {f g : PortState → PortState} (hf : PortMove f) (hg : PortMove g) (b : PortState → Prop)
    [∀ x, Decidable (b x)] : PortMove fun x => if b x then f x else g x := by
  refine ⟨fun x h => ?_, fun x => ?_, fun x => ?_⟩
  · split
    · exact hf.egress x h
    · exact hg.egress x h
  · split
    · exact hf.reply x
    · exact hg.reply x
  · split
    · exact hf.reservation x
    · exact hg.reservation x

theorem id : PortMove fun x => x := ⟨fun _ h => h, fun _ => le_refl _, fun _ => rfl⟩

theorem breakRun (c : LineCond) : PortMove (·.breakRun c) :=
  PortMove.ite (b := fun x => x.takes = true)
    (f := fun x => PortState.lineTo { x with rxFormatErr := bump x.rxFormatErr, awaitIdle := true } c)
    ⟨fun _ h => ⟨h.transitRoom, h.passover, h.down, h.idle⟩, fun _ => le_refl _, fun _ => rfl⟩ (lineTo c)

theorem lineChange (c : LineCond) : PortMove (·.lineChange c) :=
  PortMove.ite (b := fun x => x.line = c) .id
    (PortMove.ite (b := fun x => x.line = .data ∧ x.takes = true)
      (PortMove.ite (b := fun _ => c = .idle) .id (breakRun c)) (lineTo c))

theorem goUp : PortMove fun x => PortState.arbitrate { x with link := .up, awaitIdle := false, measure := none } := by
  refine ⟨fun x h => EgressReady.arbitrate ⟨h.transitRoom, h.passover, nofun⟩, fun x => ?_, fun x => ?_⟩
  · exact (PortState.arbitrate_reply _).1
  · exact (PortState.arbitrate_reply _).2

theorem goDown : PortMove fun x =>
    PortState.egressDown { x with link := .down, awaitIdle := false, measure := none } :=
  ⟨fun _ _ => ⟨Nat.zero_le _, Nat.zero_le _, fun _ => ⟨rfl, rfl, rfl, rfl⟩, nofun⟩, fun _ => Nat.zero_le _,
    fun _ => rfl⟩

theorem txDone : PortMove PortState.txDone := by
  refine ⟨fun x h => EgressReady.arbitrate ⟨h.transitRoom, h.passover, fun hd => ?_⟩, fun x => ?_, fun x => ?_⟩
  · obtain ⟨ht, hr, -, hp⟩ := h.down hd
    exact ⟨ht, hr, rfl, hp⟩
  · exact (PortState.arbitrate_reply _).1
  · exact (PortState.arbitrate_reply _).2

theorem handTransit (f : Frame) : PortMove (·.handTransit f) := by
  refine ⟨fun x h => h.handTransit f, fun x => ?_, fun x => ?_⟩
  · unfold PortState.handTransit
    split
    · exact le_refl _
    · split
      · exact le_refl _
      · exact (PortState.arbitrate_reply _).1
  · unfold PortState.handTransit
    split
    · rfl
    · split
      · rfl
      · exact (PortState.arbitrate_reply _).2

theorem egressRestart : PortMove PortState.egressRestart := by
  refine ⟨fun x h => ⟨Nat.zero_le _, Nat.zero_le _, fun hd => ?_, fun hup hs => ?_⟩, fun x => ?_, fun _ => rfl⟩
  · obtain ⟨-, hr, hs, -⟩ := h.down hd
    exact ⟨rfl, by simp [PortState.egressRestart, hr], hs, rfl⟩
  · obtain ⟨-, hr⟩ := h.idle hup hs
    exact ⟨rfl, by simp [PortState.egressRestart, hr]⟩
  · simpa [PortState.egressRestart] using List.length_filter_le _ _

/-- A change of a port that leaves its egress side and its reservation. -/
theorem elsewhere (f : PortState → PortState) (hl : ∀ x, (f x).link = x.link := by exact fun _ => rfl)
    (ht : ∀ x, (f x).transit = x.transit := by exact fun _ => rfl)
    (hr : ∀ x, (f x).reply = x.reply := by exact fun _ => rfl)
    (hs : ∀ x, (f x).sending = x.sending := by exact fun _ => rfl)
    (hp : ∀ x, (f x).passover = x.passover := by exact fun _ => rfl)
    (hv : ∀ x, (f x).reservation = x.reservation := by exact fun _ => rfl) : PortMove f := by
  refine ⟨fun x h => ⟨?_, ?_, ?_, ?_⟩, fun x => ?_, hv⟩
  · rw [ht]; exact h.transitRoom
  · rw [hp]; exact h.passover
  · rw [hl, ht, hr, hs, hp]; exact h.down
  · rw [hl, ht, hr, hs]; exact h.idle
  · rw [hr]

end PortMove

/-! ### The Trigger Unit's room -/

section TriggerRoom

variable {u : Trigger}

theorem TriggerOk.arm : TriggerOk u.arm := ⟨Nat.zero_le _, nofun⟩

theorem TriggerOk.freeze : TriggerOk u.freeze := ⟨Nat.zero_le _, fun _ => rfl⟩

/-- An arriving summary joins a RUNNING queue of fewer than 16 only (R69). -/
theorem TriggerOk.arrive (h : TriggerOk u) : TriggerOk u.arrive := by
  unfold Trigger.arrive
  split
  · exact h
  · simp only
    split
    · exact ⟨h.queueRoom, h.frozen⟩
    · next hrun =>
      split
      · next hlt =>
        refine ⟨?_, fun hf => by simp [hrun] at hf⟩
        simp only [Config.summaryRoom] at hlt
        simp only [List.length_append, List.length_singleton]
        omega
      · exact ⟨h.queueRoom, h.frozen⟩

theorem TriggerOk.evaluate {x : Summary} {rest : List Summary} (h : TriggerOk u) (hr : u.state = .running)
    (hq : u.queue = x :: rest) : TriggerOk (u.evaluate x rest) := by
  obtain ⟨hroom, -⟩ := h
  rw [hq] at hroom
  exact ⟨Nat.le_of_succ_le hroom, fun hf => by simp [Trigger.evaluate, hr] at hf⟩

end TriggerRoom

/-! ### The Agent's own events -/

/-- A change of the Agent that leaves its dispatches, its gatherings and its numbers, and keeps it in order. -/
structure AgentMove (a b : Agent) : Prop where
  dispatched : b.dispatched = a.dispatched
  gathers : b.gathers = a.gathers
  nextId : b.nextId = a.nextId
  ok : AgentOk a → AgentOk b

theorem AgentMove.raised (c : AlertCond) (a : Agent) : AgentMove a (a.raised c) :=
  ⟨rfl, rfl, rfl, fun h => ⟨h.profile, h.guardLow, h.sessionLeft, h.cacheRoom, h.cacheNodes, h.cacheIds,
    h.cacheOld, ⟨h.alerts.none, h.alerts.tries, h.alerts.timer, h.alerts.retry⟩, h.noNode, h.dispatched⟩⟩

theorem AgentMove.withRestarts (a : Agent) (rs : List Restarting) : AgentMove a { a with restarts := rs } :=
  ⟨rfl, rfl, rfl, fun h => ⟨h.profile, h.guardLow, h.sessionLeft, h.cacheRoom, h.cacheNodes, h.cacheIds,
    h.cacheOld, h.alerts, h.noNode, h.dispatched⟩⟩

theorem AgentMove.closed (a : Agent) : AgentMove a a.closed :=
  ⟨rfl, rfl, rfl, fun h => ⟨h.profile, fun _ => rfl, nofun, h.cacheRoom, h.cacheNodes, h.cacheIds,
    h.cacheOld, h.alerts, h.noNode, h.dispatched⟩⟩

theorem AgentMove.guardFalls (a : Agent) : AgentMove a { a.closed with guard := false } :=
  ⟨rfl, rfl, rfl, fun h => ⟨h.profile, fun _ => rfl, nofun, h.cacheRoom, h.cacheNodes, h.cacheIds,
    h.cacheOld, h.alerts, h.noNode, h.dispatched⟩⟩

theorem AgentMove.guardRises (a : Agent) : AgentMove a { a with guard := true } :=
  ⟨rfl, rfl, rfl, fun h => ⟨h.profile, nofun, h.sessionLeft, h.cacheRoom, h.cacheNodes, h.cacheIds,
    h.cacheOld, h.alerts, h.noNode, h.dispatched⟩⟩

/-- The expiry of the ack timer, with something outstanding, keeps the alert protocol in order (R191). -/
theorem AlertsOk.expired {a : Alerts} (h : AlertsOk a) (ho : a.outstanding ≠ 0) : AlertsOk a.expired := by
  obtain ⟨hlow, hhigh⟩ := h.tries ho
  unfold Alerts.expired
  split
  · next hlt =>
    exact ⟨fun h0 => absurd h0 ho, fun _ => ⟨hlow, hhigh⟩, fun _ => ⟨fun _ => rfl, fun _ => rfl⟩,
      fun _ => Nat.le_of_lt_succ hlt⟩
  · next hge =>
    have notDue : a.retryDue = false := by
      by_contra hd
      have := h.retry (by simpa using hd)
      omega
    exact ⟨fun _ => ⟨rfl, rfl, notDue⟩, fun h0 => absurd rfl h0, fun h0 => absurd rfl h0,
      fun hd => by simp [notDue] at hd⟩

theorem AgentMove.expired {a : Agent} (ho : a.alerts.outstanding ≠ 0) :
    AgentMove a { a with alerts := a.alerts.expired } := by
  refine ⟨rfl, rfl, rfl, fun h => ⟨h.profile, h.guardLow, h.sessionLeft, h.cacheRoom, h.cacheNodes, h.cacheIds,
    h.cacheOld, h.alerts.expired ho, fun hn => absurd (h.noNode hn).1 ho, h.dispatched⟩⟩

/-! ### The course of an event -/

/-- Which part of a gathering is read or cleared at a block, and for what kind of gathering (R187, R188). -/
inductive PartOf : Block → (GatherKind → Bool) → (GatherKind → State → State × List Byte) → Prop where
  | status (b : StatusBlock) : PartOf (statusBlock b) GatherKind.isStatus fun _ s => (s, statusPart b s)
  | counters (b : CounterBlock) :
      PartOf (counterBlock b) GatherKind.isCounters fun k s => (s, countersPart b k s)
  | clear (b : CounterBlock) : PartOf (counterBlock b) GatherKind.isClear fun _ s => (clearPart b s, [])

/-- The events of the Table Store of its own (R154, R167). -/
inductive StoreEvent : (State → State) → Prop where
  | programErased : StoreEvent programErased
  | programWritten : StoreEvent programWritten
  | programVerified (held : Bool) : StoreEvent (programVerified held)
  | erased (succeeded : Bool) : StoreEvent (erased succeeded)
  | lockDone : StoreEvent lockDone
  | guardFalls : StoreEvent guardFalls
  | guardRises : StoreEvent guardRises

/-- The course of an event: the moves it is made of. -/
inductive Course : State → State → Prop where
  | refl (s : State) : Course s s
  | trans {s t u : State} : Course s t → Course t u → Course s u
  | elapse (n : Nat) (s : State) : Course s (elapse n s)
  | time (s : State) (x : TimeBase) : Course s (s.withTime x)
  | strap (s : State) (x : BitVec 2) : Course s (s.withStrap x)
  | port (s : State) (p : Port) {f : PortState → PortState} (hf : PortMove f) : Course s (s.onPort p f)
  | classifier (s : State) (x : Classifier) : Course s (s.withClassifier x)
  | windows (s : State) (x : Resolver) (hx : x.pins = s.resolver.pins) : Course s (s.withResolver x)
  | trigger (s : State) (x : Trigger) (hx : TriggerOk s.trigger → TriggerOk x) : Course s (s.withTrigger x)
  | agent (s : State) (a : Agent) (ha : AgentMove s.agent a) : Course s (s.withAgent a)
  | intake (s : State) (p : Port) : Course s (intake p s)
  | alertSend (s : State) : Course s (alertSend s)
  | part {b : Block} {ofKind : GatherKind → Bool} {f : GatherKind → State → State × List Byte}
      (hf : PartOf b ofKind f) (s : State) : Course s (partEvent b ofKind f s)
  | owner {b : Block} {k : ReqKind} {carry : Dispatch → State → State × List (List Byte)}
      (hc : Carries b k carry) (s : State) : Course s (ownerEvent b k carry s)
  | store {f : State → State} (hf : StoreEvent f) (s : State) : Course s (f s)
  | takeRequest (q : RecordRequest) (s : State) : Course s (takeRequest q s)
  | stopCapture (reason : StopReason) (s : State) : Course s (stopCapture reason s)
  | autostart (s : State) : Course s (autostart s)

namespace Course

variable {s t : State}

theorem raise (c : AlertCond) (s : State) : Course s (Machine.raise c s) := .agent s _ (.raised c _)

theorem fated (h : Fated s t) : Course s t := by
  induction h with
  | refl => exact .refl s
  | heard node p _ ih => exact ih.trans (.classifier _ _)
  | counted cls _ ih => exact ih.trans (.classifier _ _)
  | tookSeq node seq _ ih => exact ih.trans (.classifier _ _)
  | bumped f _ _ ih => exact ih.trans (.classifier _ _)
  | forward p f _ ih => exact ih.trans (.port _ _ (.handTransit f))
  | hand p f _ ih =>
    exact ih.trans (.port _ _ (.elsewhere fun x => { x with request := some ⟨p, f.src, f.seq, f.payload⟩ }))
  | pass y _ _ ih =>
    cases y with
    | none => exact ih
    | some y => exact ih.trans (.trigger _ _ fun h => ⟨h.queueRoom, h.frozen⟩)

theorem summaryArrive (s : State) : Course s (Machine.summaryArrive s) := .trigger s _ (·.arrive)

theorem lookup (p : Port) (s : State) : Course s (Machine.lookup p s) := by
  rcases lookup_cases p s with h | ⟨x, -, h⟩ <;> rw [h]
  · exact .refl s
  · have way : Course s (clearWay p s) := (Course.intake s p).trans (summaryArrive _)
    have taken := way.trans (.port _ p (.elsewhere fun y => { y with accepted := none }))
    exact (taken.trans (.classifier _ _)).trans (fated (Fated.fate p x))

theorem frameArrives (p : Port) (run : List Byte) (s : State) : Course s (Machine.frameArrives p run s) := by
  rcases frameArrives_cases p run s with h | ⟨f, e, h⟩ | ⟨f, h⟩ <;> rw [h]
  · exact .refl s
  · exact .port s p (.elsewhere fun x => { x.lineTo .idle with rxFormatErr := f x, rxCheckErr := e x })
  · have looked := (Course.port s p (.lineTo .idle)).trans (lookup p _)
    exact (looked.trans (.port _ p (.elsewhere fun x =>
      { x with rxGood := bump x.rxGood, accepted := some ⟨f, stampNow (Machine.lookup p _)⟩ }))).trans
      (.time _ _)

theorem restartEvent {due : Restarting → Bool} {mark : Restarting → Restarting} {act : State → State}
    (ha : ∀ s, Course s (act s)) : Course s (Machine.restartEvent due mark act s) := by
  rcases restartEvent_cases due mark act s with h | ⟨rs, -, h⟩ <;> rw [h]
  · exact .refl s
  · exact (Course.agent s _ (.withRestarts _ rs)).trans (ha _)

theorem takeNotice {n : Notice} {f : Trigger → Trigger} (hf : ∀ u, TriggerOk (f u)) :
    Course s (Machine.takeNotice n f s) := by
  unfold Machine.takeNotice
  split
  · split
    · exact .trigger s _ fun _ => hf _
    · exact .refl s
  · exact .refl s

theorem intakeOf (k : Option ReqKind) (p : Port) (s : State) : Course s (Machine.intakeOf k p s) := by
  unfold Machine.intakeOf
  split
  · exact .refl s
  · split
    · exact .intake s p
    · exact .refl s

/-- Every event of a powered bridge is a course. -/
theorem event {f : State → State} (hf : Event f) (s : State) : Course s (f s) := by
  cases hf with
  | frameArrives p run => exact frameArrives p run s
  | runBroken p how => exact .port s p (.breakRun _)
  | linkGoesUp p =>
    unfold linkGoesUp
    split
    · exact (Course.elapse _ s).trans (.port _ p .goUp)
    · exact .refl s
  | linkGoesDown p =>
    unfold linkGoesDown
    split
    · exact ((Course.elapse _ s).trans (.port _ p .goDown)).trans (.classifier _ _)
    · exact .refl s
  | syncLost =>
    unfold syncLost
    split
    · exact .refl s
    · exact ((Course.elapse _ s).trans (.time _ _)).trans (.raise _ _)
  | lookup p => exact lookup p s
  | summaryArrive => exact summaryArrive s
  | evaluateHead =>
    unfold evaluateHead
    split
    · next hr hq _ => exact .trigger s _ fun h => h.evaluate hr hq
    · exact .refl s
  | requestArrive =>
    unfold requestArrive
    split
    · exact .refl s
    · exact (Course.trigger s { s.trigger with handOff := none } fun h =>
        ⟨h.queueRoom, h.frozen⟩).trans (.takeRequest _ _)
  | armNotice => exact takeNotice fun _ => .arm
  | freezeNotice n => exact takeNotice fun _ => .freeze
  | txCompletes p =>
    unfold txCompletes
    split
    · exact .refl s
    · exact (Course.elapse _ s).trans (.port _ p .txDone)
  | intakeOf k p => exact intakeOf k p s
  | restart p strap => exact (Course.strap s strap).trans (intakeOf (some .restart) p _)
  | statusPart b => exact .part (.status b) s
  | countersPart b => exact .part (.counters b) s
  | clearCounters b => exact .part (.clear b) s
  | restartEgress p => exact restartEvent fun s => .port s p .egressRestart
  | restartClassifier => exact restartEvent fun s => .classifier s _
  | restartResolver => exact restartEvent fun s => .windows s _ rfl
  | restartTrigger => exact restartEvent fun s => .trigger s _ fun _ => .freeze
  | restartCapture => exact restartEvent fun s => .stopCapture _ s
  | restartTimeBase => exact restartEvent fun s => .time s _
  | autostartEvent =>
    unfold autostartEvent
    split
    · split
      · exact (Course.agent s _ (.withRestarts _ _)).trans (.autostart _)
      · exact .refl s
    · exact .refl s
  | sessionExpires =>
    unfold sessionExpires
    split
    · exact .refl s
    · exact ((Course.elapse _ s).trans (.agent _ _ (.closed _))).trans (.raise _ _)
  | alertSend => exact .alertSend s
  | ackExpiry =>
    unfold ackExpiry
    split
    · exact .refl s
    · next n _ =>
      split
      · exact .refl s
      · next ho => exact (Course.elapse n s).trans (.agent _ _ (.expired ho))
  | agentGuardFalls => exact .agent s _ (.guardFalls _)
  | agentGuardRises => exact .agent s _ (.guardRises _)
  | owner hc => exact .owner hc s
  | programErased => exact .store .programErased s
  | programWritten => exact .store .programWritten s
  | programVerified held => exact .store (.programVerified held) s
  | erased succeeded => exact .store (.erased succeeded) s
  | lockDone => exact .store .lockDone s
  | guardFalls => exact .store .guardFalls s
  | guardRises => exact .store .guardRises s

end Course
end Sys2Proof.Machine
end


section
/-! What the blocks' own sides of an event leave, and the first invariants proved by the course of an event: the
Trigger Unit's room, and the egress sides. -/

namespace Sys2Proof.Machine

/-! ### The Resolver's and the store's sides of an event -/

/-- A request of the Page Resolver changes Tuning Memory and the Window Table only. -/
theorem Carries.resolverSide {k : ReqKind} {carry : Dispatch → State → State × List (List Byte)}
    (h : Carries .resolver k carry) (d : Dispatch) (s : State) :
    ∃ x : Resolver, x.pins = s.resolver.pins ∧ (carry d s).1 = s.withResolver x := by
  have same : ∃ x : Resolver, x.pins = s.resolver.pins ∧ s = s.withResolver x := ⟨s.resolver, rfl, rfl⟩
  cases h with
  | tuneWrite =>
    unfold carryTuneWrite
    simp only
    split
    · exact same
    · split
      · exact same
      · exact ⟨s.resolver.tune _ _ _, rfl, rfl⟩
  | tuneRead =>
    unfold carryTuneRead
    simp only
    split <;> exact same
  | windowSet =>
    by_cases hin : d.request.windowInRange
    · rw [carryWindowSet_ok s hin]
      exact ⟨s.resolver.setWindow _ _, rfl, rfl⟩
    · rw [carryWindowSet_refused s hin]
      exact same
  | windowRead =>
    unfold carryWindowRead
    simp only
    split <;> exact same
  | pageRead =>
    unfold carryPageRead
    simp only
    split
    · exact same
    · split <;> exact same

/-- What the store's side of an event can change: the store, the pins, the free values used, a condition
raised. -/
inductive StoreSide (s : State) : State → Prop where
  | refl : StoreSide s s
  | store {t : State} (x : Store) : StoreSide s t → StoreSide s (t.withStore x)
  | resolver {t : State} (x : Resolver) : StoreSide s t → StoreSide s (t.withResolver x)
  | draw {t : State} (n : Nat) : StoreSide s t → StoreSide s (drew n t)
  | raise {t : State} (c : AlertCond) : StoreSide s t → StoreSide s (raise c t)

theorem StoreSide.endOperation {s t : State} (h : StoreSide s t) (o : Operation) (e : Ending) :
    StoreSide s (Machine.endOperation o e t) := (h.store _).resolver _

/-- A request of the Table Store, carried out there, stays on the store's side. -/
theorem Carries.storeSide {k : ReqKind} {carry : Dispatch → State → State × List (List Byte)}
    (h : Carries .store k carry) (d : Dispatch) (s : State) : StoreSide s (carry d s).1 := by
  have operation : ∀ k refusal accept, (∀ r, StoreSide s (accept r s)) →
      StoreSide s (carryOperation k refusal accept d s).1 := by
    intro k refusal accept ha
    unfold carryOperation
    simp only
    split
    · exact .refl
    · split
      · exact .refl
      · exact ha _
  cases h with
  | storeProgram => exact operation _ _ _ fun r => (StoreSide.refl.store _).resolver _
  | storeErase => exact operation _ _ _ fun r => StoreSide.refl.store _
  | storeLock => exact operation _ _ _ fun r => StoreSide.refl.store _
  | storeUnlockErase => exact operation _ _ _ fun r => StoreSide.refl.store _
  | storeAbort =>
    unfold carryAbort
    simp only
    split
    · exact .refl
    · split
      · exact .refl
      · exact StoreSide.refl.endOperation _ _
  | storeClearFault =>
    unfold carryClearFault
    simp only
    split
    · exact .refl
    · split
      · exact .refl
      · exact StoreSide.refl.store _
  | storeStatus => exact StoreSide.refl.draw _

/-- An event of the store of its own stays on its side, but for the time that may pass before it. -/
theorem StoreEvent.storeSide {f : State → State} (h : StoreEvent f) (s : State) :
    StoreSide s (f s) ∨ ∃ n, StoreSide (elapse n s) (f s) := by
  have phase : ∀ ends f, (∀ o u, StoreSide u (f o u)) →
      StoreSide s (phaseEvent ends f s) ∨ ∃ n, StoreSide (elapse n s) (phaseEvent ends f s) := by
    intro ends f hf
    rcases phaseEvent_cases ends f s with h' | ⟨o, -, -, h'⟩ <;> rw [h']
    · exact .inl .refl
    · exact .inr ⟨o.left, hf o _⟩
  cases h with
  | programErased => exact phase _ _ fun o u => (StoreSide.refl.store _).store _
  | programWritten => exact phase _ _ fun o u => (StoreSide.refl.store _).store _
  | programVerified held =>
    refine phase _ _ fun o u => ?_
    split
    · exact ((StoreSide.refl.store _).endOperation _ _).raise _
    · exact (StoreSide.refl.endOperation _ _).raise _
  | erased succeeded =>
    refine phase _ _ fun o u => ?_
    split
    · exact ((StoreSide.refl.store _).endOperation _ _).raise _
    · exact (StoreSide.refl.endOperation _ _).raise _
  | lockDone => exact phase _ _ fun o u => ((StoreSide.refl.store _).endOperation _ _).raise _
  | guardFalls =>
    unfold Machine.guardFalls
    simp only
    split
    · exact .inl (StoreSide.refl.store _)
    · exact .inl (((StoreSide.refl.store _).endOperation _ _).raise _)
  | guardRises => exact .inl (StoreSide.refl.store _)

/-- What the store's side of an event leaves. -/
structure StoreFrame (s t : State) : Prop where
  powered : t.powered = s.powered
  pending : t.pending = s.pending
  draws : s.draws ≤ t.draws
  time : t.time = s.time
  port : ∀ p, t.port p = s.port p
  classifier : t.classifier = s.classifier
  trigger : t.trigger = s.trigger
  capture : t.capture = s.capture
  agent : AgentMove s.agent t.agent

theorem AgentMove.refl (a : Agent) : AgentMove a a := ⟨rfl, rfl, rfl, fun h => h⟩

theorem AgentMove.trans {a b c : Agent} (h : AgentMove a b) (h' : AgentMove b c) : AgentMove a c :=
  ⟨h'.dispatched.trans h.dispatched, h'.gathers.trans h.gathers, h'.nextId.trans h.nextId,
    fun ha => h'.ok (h.ok ha)⟩

theorem StoreSide.frame {s t : State} (h : StoreSide s t) : StoreFrame s t := by
  induction h with
  | refl => exact ⟨rfl, rfl, le_refl _, rfl, fun _ => rfl, rfl, rfl, rfl, .refl _⟩
  | store x _ ih => exact ⟨ih.powered, ih.pending, ih.draws, ih.time, fun p => by simpa using ih.port p,
      ih.classifier, ih.trigger, ih.capture, ih.agent⟩
  | resolver x _ ih => exact ⟨ih.powered, ih.pending, ih.draws, ih.time, fun p => by simpa using ih.port p,
      ih.classifier, ih.trigger, ih.capture, ih.agent⟩
  | draw n _ ih => exact ⟨ih.powered, ih.pending, Nat.le_trans ih.draws (Nat.le_add_right _ _), ih.time,
      fun p => by simpa [drew] using ih.port p, ih.classifier, ih.trigger, ih.capture, ih.agent⟩
  | raise c _ ih => exact ⟨ih.powered, ih.pending, ih.draws, ih.time, fun p => by simpa [raise_port] using ih.port p,
      ih.classifier, ih.trigger, ih.capture, ih.agent.trans (.raised c _)⟩

/-- What the capture side of an event leaves. -/
structure CaptureFrame (s t : State) : Prop where
  powered : t.powered = s.powered
  pending : t.pending = s.pending
  draws : t.draws = s.draws
  time : t.time = s.time
  port : ∀ p, t.port p = s.port p
  classifier : t.classifier = s.classifier
  resolver : t.resolver = s.resolver
  store : t.store = s.store
  queue : t.trigger.queue = s.trigger.queue
  running : t.trigger.state = s.trigger.state
  agent : AgentMove s.agent t.agent

theorem CaptureSide.frame {s t : State} (h : CaptureSide s t) : CaptureFrame s t := by
  induction h with
  | refl => exact ⟨rfl, rfl, rfl, rfl, fun _ => rfl, rfl, rfl, rfl, rfl, rfl, .refl _⟩
  | set c _ _ ih => exact ⟨ih.powered, ih.pending, ih.draws, ih.time, fun p => by simpa using ih.port p,
      ih.classifier, ih.resolver, ih.store, ih.queue, ih.running, ih.agent⟩
  | notice n _ ih => exact ⟨ih.powered, ih.pending, ih.draws, ih.time,
      fun p => by simpa [sendNotice] using ih.port p, ih.classifier, ih.resolver, ih.store, ih.queue, ih.running,
      ih.agent⟩
  | raise c _ ih => exact ⟨ih.powered, ih.pending, ih.draws, ih.time,
      fun p => by simpa [raise_port] using ih.port p, ih.classifier, ih.resolver, ih.store, ih.queue, ih.running,
      ih.agent.trans (.raised c _)⟩

/-! ### The Trigger Unit's room -/

theorem CaptureFrame.triggerOk {s t : State} (h : CaptureFrame s t) (hs : TriggerOk s.trigger) :
    TriggerOk t.trigger :=
  ⟨h.queue ▸ hs.queueRoom, h.queue ▸ h.running ▸ hs.frozen⟩

/-- A request carried out at its owner leaves the Trigger Unit in order: only the capture side reaches it, with
a notice. -/
theorem Carries.triggerOk {b : Block} {k : ReqKind} {carry : Dispatch → State → State × List (List Byte)}
    (h : Carries b k carry) (d : Dispatch) {s : State} (hs : TriggerOk s.trigger) :
    TriggerOk (carry d s).1.trigger := by
  have resolver : Carries .resolver k carry → TriggerOk (carry d s).1.trigger := fun h => by
    obtain ⟨x, -, hx⟩ := h.resolverSide d s
    rw [hx]
    exact hs
  have store : Carries .store k carry → TriggerOk (carry d s).1.trigger := fun h => by
    rw [(h.storeSide d s).frame.trigger]
    exact hs
  have capture : Carries .capture k carry → TriggerOk (carry d s).1.trigger :=
    fun h => (h.captureSide d s).frame.triggerOk hs
  cases b with
  | resolver => exact resolver h
  | store => exact store h
  | capture => exact capture h
  | _ => cases h

/-- A part read or cleared leaves the Trigger Unit in order. -/
theorem PartOf.triggerOk {b : Block} {ofKind : GatherKind → Bool} {f : GatherKind → State → State × List Byte}
    (h : PartOf b ofKind f) (k : GatherKind) {s : State} (hs : TriggerOk s.trigger) :
    TriggerOk (f k s).1.trigger := by
  cases h with
  | status b => exact hs
  | counters b => exact hs
  | clear b =>
    cases b with
    | port p => simpa [clearPart] using hs
    | classifier => exact hs
    | trigger => exact ⟨hs.queueRoom, hs.frozen⟩

/-- A course keeps the Trigger Unit in order (R87, R89). -/
theorem Course.triggerOk {s t : State} (h : Course s t) : TriggerOk s.trigger → TriggerOk t.trigger := by
  induction h with
  | refl | elapse | time | strap | classifier | windows | agent => exact id
  | trans _ _ ih ih' => exact fun hs => ih' (ih hs)
  | port => simp
  | trigger _ _ hx => exact hx
  | intake s p => rw [(AgentSide.refl.intake p).blocks.trigger]; exact id
  | alertSend s => rw [AgentSide.alertSend.blocks.trigger]; exact id
  | @part b ofKind f hf s =>
    intro hs
    rcases partEvent_cases b ofKind f s with h | ⟨d, id, g, -, -, -, -, h⟩ <;> rw [h]
    · exact hs
    · rw [(AgentSide.refl.deliverPart g b _).blocks.trigger]
      exact hf.triggerOk _ hs
  | @owner b k carry hc s =>
    intro hs
    rcases ownerEvent_cases b k carry s with h | ⟨d, -, -, -, h⟩ <;> rw [h]
    · exact hs
    · rw [answer_trigger]
      exact hc.triggerOk d hs
  | store hf s =>
    rcases hf.storeSide s with h | ⟨n, h⟩ <;> rw [h.frame.trigger]
    · exact id
    · exact id
  | takeRequest q s => exact (CaptureSide.refl.takeRequest q).frame.triggerOk
  | stopCapture r s => exact (CaptureSide.refl.stopCapture r).frame.triggerOk
  | autostart s => exact CaptureSide.refl.autostart.frame.triggerOk

theorem Trigger.atPor_ok : TriggerOk Trigger.atPor := ⟨Nat.zero_le _, fun _ => rfl⟩

/-- Settles O55: the canonical form by `TablesOk.step`, the Trigger Unit's room by the course of each event. -/
theorem stepsKeepTablesAndTrigger : Obligations.StepsKeepTablesAndTrigger := by
  intro s t hstep
  refine ⟨fun hs => hs.step hstep, fun hs => ?_⟩
  refine step_keeps (P := fun s => TriggerOk s.trigger) (fun _ _ h => h) (fun _ _ h => h)
    (fun g a n s _ => ?por) (fun _ _ => Trigger.atPor_ok) (fun p l s h => ?line)
    (fun f s hf h => (Course.event hf s).triggerOk h) hs hstep
  case por => exact CaptureSide.refl.autostart.frame.triggerOk Trigger.atPor_ok
  case line =>
    unfold lineChange
    split <;> simpa using h

/-! ### The egress sides -/

theorem EgressOk.placeAll {x : PortState} (h : EgressOk x) (rs : List Reply) : EgressOk (x.placeAll rs) := by
  induction rs generalizing x with
  | nil => exact h
  | cons r rs ih => exact ih (h.place r)

theorem EgressOk.elapse {x : PortState} (h : EgressOk x) (n : Nat) : EgressOk (elapsePort n x) := by
  refine ⟨h.transitRoom, h.passover, fun hd => ?_, fun hup hs => h.idle hup (by simpa [elapsePort] using hs)⟩
  obtain ⟨ht, hr, hs, hp⟩ := h.down hd
  exact ⟨ht, hr, by simp [elapsePort, hs], hp⟩

/-- Both egress sides in order. -/
def State.EgressOk (s : State) : Prop := ∀ p, Machine.EgressOk (s.port p)

namespace State.EgressOk

variable {s t : State}

theorem onPort (h : s.EgressOk) (p : Port) {f : PortState → PortState}
    (hf : Machine.EgressOk (s.port p) → Machine.EgressOk (f (s.port p))) : (s.onPort p f).EgressOk := by
  intro q
  rw [State.onPort_port]
  split
  · exact hf (h p)
  · exact h q

theorem ports (h : s.EgressOk) (hp : ∀ p, t.port p = s.port p) : t.EgressOk := fun p => hp p ▸ h p

theorem elapse (h : s.EgressOk) (n : Nat) : (Machine.elapse n s).EgressOk := fun p => by
  rw [elapse_port]
  exact (h p).elapse n

theorem agentSide (h : s.EgressOk) (ht : AgentSide s t) : t.EgressOk := by
  induction ht with
  | refl => exact h
  | agent a _ ih => exact ih.ports fun p => by simp
  | draw n _ ih => exact ih.ports fun p => by simp [drew]
  | receive p _ ih => exact ih.onPort p fun hp => ⟨hp.transitRoom, hp.passover, hp.down, hp.idle⟩
  | drop p _ ih => exact ih.onPort p fun hp => ⟨hp.transitRoom, hp.passover, hp.down, hp.idle⟩
  | reserve p f _ ih => exact ih.onPort p fun hp => ⟨hp.transitRoom, hp.passover, hp.down, hp.idle⟩
  | place p r _ ih => exact ih.onPort p fun hp => hp.place r

/-- A request carried out at its owner leaves the ports; only the answer reaches one. -/
theorem carry {b : Block} {k : ReqKind} {carry : Dispatch → State → State × List (List Byte)}
    (hc : Carries b k carry) (d : Dispatch) (s : State) (p : Port) : (carry d s).1.port p = s.port p := by
  have resolver : Carries .resolver k carry → (carry d s).1.port p = s.port p := fun h => by
    obtain ⟨x, -, hx⟩ := h.resolverSide d s
    rw [hx]
    exact State.withResolver_port _ _ _
  cases b with
  | resolver => exact resolver hc
  | store => exact (Carries.storeSide hc d s).frame.port p
  | capture => exact (Carries.captureSide hc d s).frame.port p
  | _ => cases hc

theorem course (ht : Course s t) : s.EgressOk → t.EgressOk := by
  induction ht with
  | refl => exact id
  | trans _ _ ih ih' => exact fun hs => ih' (ih hs)
  | elapse n s => exact fun hs => hs.elapse n
  | time | strap | classifier | windows | trigger | agent => exact fun hs => hs.ports fun p => by simp
  | port s p hf => exact fun hs => hs.onPort p (hf.egress _)
  | intake s p => exact fun hs => hs.agentSide (AgentSide.refl.intake p)
  | alertSend s => exact fun hs => hs.agentSide AgentSide.alertSend
  | @part b ofKind f hf s =>
    intro hs
    rcases partEvent_cases b ofKind f s with h | ⟨d, id, g, -, -, -, -, h⟩ <;> rw [h]
    · exact hs
    · refine State.EgressOk.agentSide ?_ (AgentSide.refl.deliverPart g b _)
      have taken : (s.withAgent (s.agent.takeNext b)).EgressOk := hs.ports fun p => by simp
      cases hf with
      | status b => exact taken
      | counters b => exact taken
      | clear b =>
        cases b with
        | port p => exact taken.onPort p fun hp => ⟨hp.transitRoom, hp.passover, hp.down, hp.idle⟩
        | classifier => exact taken.ports fun p => by simp [clearPart]
        | trigger => exact taken.ports fun p => by simp [clearPart]
  | @owner b k carry hc s =>
    intro hs
    rcases ownerEvent_cases b k carry s with h | ⟨d, -, -, -, h⟩ <;> rw [h]
    · exact hs
    · refine State.EgressOk.agentSide ?_ (AgentSide.refl.answer _ _ _ _)
      exact hs.ports fun p => by rw [State.EgressOk.carry hc, State.withAgent_port]
  | store hf s =>
    intro hs
    rcases hf.storeSide s with h | ⟨n, h⟩
    · exact hs.ports h.frame.port
    · exact (hs.elapse n).ports h.frame.port
  | takeRequest q s => exact fun hs => hs.ports (CaptureSide.refl.takeRequest q).frame.port
  | stopCapture r s => exact fun hs => hs.ports (CaptureSide.refl.stopCapture r).frame.port
  | autostart s => exact fun hs => hs.ports CaptureSide.refl.autostart.frame.port

end State.EgressOk

/-- A port after POR, whatever it measures, is in order. -/
theorem EgressOk.atPor (line : LineCond) (m : Option Nat) : EgressOk { PortState.atPor line with measure := m } :=
  ⟨Nat.zero_le _, Nat.zero_le _, fun _ => ⟨rfl, rfl, rfl, rfl⟩, nofun⟩

/-- Settles O56: by the course of each event, whose moves at a port each keep its egress side in order. -/
theorem stepsKeepEgressSides : Obligations.StepsKeepEgressSides := by
  intro s t hs hstep
  refine step_keeps (P := State.EgressOk) (fun s x h => h.ports fun p => by simp) (fun n s h => h.elapse n)
    (fun g a n s _ => ?por) (fun s _ p => ?loss) (fun p l s h => ?line)
    (fun f s hf h => State.EgressOk.course (Course.event hf s) h) hs hstep
  case por =>
    have started : (startUp g a n s).EgressOk := fun p => by cases p <;> exact EgressOk.atPor _ _
    exact started.ports CaptureSide.refl.autostart.frame.port
  case loss => cases p <;> exact EgressOk.atPor _ _
  case line =>
    unfold lineChange
    split
    · exact h.onPort p ((PortMove.lineChange l).egress _)
    · exact h.onPort p fun hp => ⟨hp.transitRoom, hp.passover, hp.down, hp.idle⟩

end Sys2Proof.Machine
end


section
/-! Proof that every step keeps the reply room (R180): what each operation of the Agent does to the reservation of
a port, to its Reply Queue and to what the requests under way hold; then the course of each event. -/

namespace Sys2Proof.Machine

/-! ### What requests under way hold -/

/-- What one dispatch holds singly at a port. -/
def Dispatch.heldAt (d : Dispatch) (p : Port) : Nat := if d.gather = none ∧ d.request.port = p then d.held else 0

/-- What one gathering holds at a port. -/
def Gather.heldAt (g : Gather) (p : Port) : Nat := if g.request.port = p then g.held else 0

theorem heldSingly_eq (a : Agent) (p : Port) : heldSingly a p = (a.dispatched.map (·.heldAt p)).sum := by
  unfold heldSingly
  induction a.dispatched with
  | nil => rfl
  | cons d ds ih =>
    rw [List.filter_cons, List.map_cons, List.sum_cons, ← ih]
    by_cases h : d.gather = none ∧ d.request.port = p
    · simp [Dispatch.heldAt, h]
    · rw [Dispatch.heldAt, if_neg h, if_neg (by simpa using h), Nat.zero_add]

theorem heldByGathers_eq (a : Agent) (p : Port) : heldByGathers a p = (a.gathers.map (·.heldAt p)).sum := by
  unfold heldByGathers
  induction a.gathers with
  | nil => rfl
  | cons g gs ih =>
    rw [List.filter_cons, List.map_cons, List.sum_cons, ← ih]
    by_cases h : g.request.port = p
    · simp [Gather.heldAt, h]
    · rw [Gather.heldAt, if_neg h, if_neg (by simpa using h), Nat.zero_add]

theorem perm_find_eraseP {l : List Dispatch} {q : Dispatch → Bool} {d : Dispatch} (h : l.find? q = some d) :
    l.Perm (d :: l.eraseP q) := by
  induction l with
  | nil => cases h
  | cons x xs ih =>
    rw [List.find?_cons] at h
    rw [List.eraseP_cons]
    cases hx : q x with
    | true =>
      rw [hx] at h
      cases h
      exact List.Perm.refl _
    | false =>
      rw [hx] at h
      exact ((ih h).cons x).trans (List.Perm.swap d x _)

/-- The request a block takes next is one of those dispatched, and the others stay (R179). -/
theorem Agent.takeNext_perm {a : Agent} {b : Block} {d : Dispatch} (h : a.nextFor b = some d) :
    a.dispatched.Perm (d :: (a.takeNext b).dispatched) := perm_find_eraseP h

/-- A gathering and those of other numbers are all of them, where the numbers are different. -/
theorem gathers_perm {l : List Gather} {g : Gather} (hn : (l.map (·.id)).Nodup) (hg : g ∈ l) :
    l.Perm (g :: l.filter fun x => x.id != g.id) := by
  induction l with
  | nil => cases hg
  | cons x xs ih =>
    rw [List.map_cons, List.nodup_cons] at hn
    obtain ⟨hx, hn⟩ := hn
    rcases List.mem_cons.mp hg with rfl | hg
    · have others : xs.filter (fun x => x.id != g.id) = xs := by
        refine List.filter_eq_self.mpr fun y hy => ?_
        have : y.id ≠ g.id := fun e => hx (e ▸ List.mem_map_of_mem hy)
        simpa using this
      rw [List.filter_cons_of_neg (by simp), others]
    · have hne : x.id ≠ g.id := fun e => hx (e ▸ List.mem_map_of_mem hg)
      rw [List.filter_cons_of_pos (by simpa using hne)]
      exact ((ih hn hg).cons x).trans (List.Perm.swap g x _)

theorem Agent.gather_mem {a : Agent} {id : Nat} {g : Gather} (h : a.gather id = some g) :
    g ∈ a.gathers ∧ g.id = id :=
  ⟨List.mem_of_find?_eq_some h, by simpa using List.find?_some h⟩

/-! ### Frames placed -/

/-- A frame placed adds at most one to a Reply Queue (R27). -/
theorem PortState.place_reply (x : PortState) (r : Reply) :
    (x.place r).reply.length ≤ x.reply.length + 1 ∧ (x.place r).reservation = x.reservation := by
  unfold PortState.place
  split
  · exact ⟨Nat.le_succ _, rfl⟩
  · have h := PortState.arbitrate_reply { x with reply := x.reply ++ [r] }
    simpa using h

theorem PortState.placeAll_reply (rs : List Reply) (x : PortState) :
    (x.placeAll rs).reply.length ≤ x.reply.length + rs.length ∧
      (x.placeAll rs).reservation = x.reservation := by
  induction rs generalizing x with
  | nil => exact ⟨le_refl _, rfl⟩
  | cons r rs ih =>
    obtain ⟨hlen, hres⟩ := ih (x.place r)
    obtain ⟨hlen', hres'⟩ := x.place_reply r
    rw [PortState.placeAll_cons]
    refine ⟨?_, hres.trans hres'⟩
    rw [List.length_cons]
    omega

@[simp] theorem length_plainReplies (fs : List Frame) : (plainReplies fs).length = fs.length := by
  simp [plainReplies]

/-! ### The reply room -/

namespace ReplyRoomOk

variable {s t : State}

/-- The room is kept where the requests under way and the reservations are as they were, and no Reply Queue
has outgrown it. -/
theorem of_same (h : ReplyRoomOk s) (hd : t.agent.dispatched = s.agent.dispatched)
    (hg : t.agent.gathers = s.agent.gathers) (hn : s.agent.nextId ≤ t.agent.nextId)
    (hv : ∀ p, (t.port p).reservation = (s.port p).reservation)
    (hr : ∀ p, (t.port p).reply.length + (s.port p).reservation ≤ 8) : ReplyRoomOk t := by
  refine ⟨fun p => ?_, fun p => ?_, ?_, ?_, ?_, fun g hgm => ?_⟩
  · rw [hv, h.reserved, heldSingly, heldSingly, heldByGathers, heldByGathers, hd, hg]
  · rw [hv]; exact hr p
  · rw [hd]; exact h.heldOne
  · rw [hg]; exact h.gatherHeldOne
  · rw [hg]; exact h.gatherIds
  · rw [hg] at hgm
    exact Nat.lt_of_lt_of_le (h.gatherNew g hgm) hn

/-- The room does not depend on anything but the ports and the requests under way. -/
theorem of_ports (h : ReplyRoomOk s) (hp : ∀ p, t.port p = s.port p) (ha : AgentMove s.agent t.agent) :
    ReplyRoomOk t :=
  h.of_same ha.dispatched ha.gathers (Nat.le_of_eq ha.nextId.symm) (fun p => by rw [hp]) fun p => by
    rw [hp]; exact h.room p

theorem withAgent (h : ReplyRoomOk s) {a : Agent} (hd : a.dispatched = s.agent.dispatched)
    (hg : a.gathers = s.agent.gathers) (hn : s.agent.nextId ≤ a.nextId) : ReplyRoomOk (s.withAgent a) :=
  h.of_same hd hg hn (fun p => by rw [State.withAgent_port]) fun p => by
    rw [State.withAgent_port]; exact h.room p

/-- A change of one port that adds no frame to its Reply Queue and leaves its reservation keeps the room. -/
theorem onPort (h : ReplyRoomOk s) (p : Port) {f : PortState → PortState}
    (hr : ∀ x, (f x).reply.length ≤ x.reply.length) (hv : ∀ x, (f x).reservation = x.reservation) :
    ReplyRoomOk (s.onPort p f) := by
  refine h.of_same (by simp) (by simp) (by simp) (fun q => ?_) fun q => ?_ <;> rw [State.onPort_port] <;> split
  · next hq => rw [hv, hq]
  · rfl
  · next hq =>
    have := h.room p
    have := hr (s.port p)
    rw [hq]
    omega
  · exact h.room q

/-- Frames placed where there is room for all of them keep the room. -/
theorem placeAll (h : ReplyRoomOk s) (p : Port) (rs : List Reply) (hf : rs.length ≤ (s.port p).free) :
    ReplyRoomOk (s.onPort p (PortState.placeAll rs)) := by
  have hroom := h.room p
  obtain ⟨hlen, hres⟩ := PortState.placeAll_reply rs (s.port p)
  unfold PortState.free Config.replyRoom at hf
  refine h.of_same (by simp) (by simp) (by simp) (fun q => ?_) fun q => ?_ <;> rw [State.onPort_port] <;> split
  · next hq => rw [hres, hq]
  · rfl
  · next hq => rw [hq]; omega
  · exact h.room q

theorem placeFrames (h : ReplyRoomOk s) (p : Port) (fs : List Frame) (hf : fs.length ≤ (s.port p).free) :
    ReplyRoomOk (Machine.placeFrames p fs s) :=
  h.placeAll p _ (by simpa using hf)

/-- An answer at the intake, which gives nothing back, has room where a frame is free. -/
theorem replyNow (h : ReplyRoomOk s) (r : Request) (entry : Nat) (c : ResultCode) (contents : List Byte)
    (hf : 0 < (s.port r.port).free) : ReplyRoomOk (Machine.replyNow r entry c contents s) :=
  (h.placeAll r.port (plainReplies [s.agent.buildReply r (replyPayload r c contents)]) hf).withAgent
    (by simp) (by simp) (by simp)

/-- What is held beside a part is added to a reservation with it: the state after, where the new requests
hold `held` at port `p` and nothing elsewhere (R180). -/
theorem held (h : ReplyRoomOk s) {p : Port} {held : Nat} (hf : held ≤ (s.port p).free)
    (hv : ∀ q, (t.port q).reservation = (s.port q).reservation + if q = p then held else 0)
    (hr : ∀ q, (t.port q).reply = (s.port q).reply)
    (ha : ∀ q, heldSingly t.agent q + heldByGathers t.agent q
      = heldSingly s.agent q + heldByGathers s.agent q + if q = p then held else 0)
    (hd : ∀ d ∈ t.agent.dispatched, 1 ≤ d.held) (hg : ∀ g ∈ t.agent.gathers, 1 ≤ g.held)
    (hi : (t.agent.gathers.map (·.id)).Nodup) (hn : ∀ g ∈ t.agent.gathers, g.id < t.agent.nextId) :
    ReplyRoomOk t := by
  refine ⟨fun q => ?_, fun q => ?_, hd, hg, hi, hn⟩
  · rw [hv, ha, h.reserved]
  · have hroom := h.room q
    unfold PortState.free Config.replyRoom at hf
    rw [hr, hv]
    split
    · next hq => rw [hq] at hroom ⊢; omega
    · exact hroom

theorem hold_port (p q : Port) (n : Nat) (s : State) :
    ((hold p n s).port q).reservation = (s.port q).reservation + (if q = p then n else 0) ∧
      ((hold p n s).port q).reply = (s.port q).reply := by
  unfold hold
  rw [State.onPort_port]
  split
  · next hq => exact ⟨by rw [hq], by rw [hq]⟩
  · exact ⟨rfl, rfl⟩

theorem dispatchTo (h : ReplyRoomOk s) (b : Block) (r : Request) (entry : Nat) {held : Nat} (h1 : 1 ≤ held)
    (hf : held ≤ (s.port r.port).free) : ReplyRoomOk (Machine.dispatchTo b r entry held s) := by
  have hagent : (Machine.hold r.port held s).agent = s.agent := by simp [hold]
  refine ReplyRoomOk.held (p := r.port) (held := held) h hf (fun q => ?_) (fun q => ?_) (fun q => ?_) ?_ ?_ ?_ ?_
    <;> simp only [Machine.dispatchTo, State.withAgent_port, State.withAgent_agent, hagent]
  · exact (hold_port _ _ _ _).1
  · exact (hold_port _ _ _ _).2
  · simp only [heldSingly_eq, heldByGathers_eq, List.map_append, List.sum_append, List.map_cons, List.map_nil,
      List.sum_cons, List.sum_nil, Dispatch.heldAt, eq_comm (a := q), true_and]
    omega
  · intro d hd
    rcases List.mem_append.mp hd with hd | hd
    · exact h.heldOne d hd
    · rw [List.mem_singleton.mp hd]; exact h1
  · exact h.gatherHeldOne
  · exact h.gatherIds
  · exact h.gatherNew

theorem beginGather (h : ReplyRoomOk s) (k : GatherKind) (r : Request) (entry : Nat) (blocks : List Block)
    {held : Nat} (h1 : 1 ≤ held) (hf : held ≤ (s.port r.port).free) :
    ReplyRoomOk (Machine.beginGather k r entry held blocks s) := by
  have hagent : (Machine.hold r.port held s).agent = s.agent := by simp [hold]
  have parts : ∀ q, ((blocks.map fun b => (⟨b, r, entry, held, some s.agent.nextId⟩ : Dispatch)).map
      (·.heldAt q)).sum = 0 := by
    intro q
    simp [Dispatch.heldAt, Function.comp_def]
  refine ReplyRoomOk.held (p := r.port) (held := held) h hf (fun q => ?_) (fun q => ?_) (fun q => ?_) ?_ ?_ ?_ ?_
    <;> simp only [Machine.beginGather, State.withAgent_port, State.withAgent_agent, hagent]
  · exact (hold_port _ _ _ _).1
  · exact (hold_port _ _ _ _).2
  · simp only [heldSingly_eq, heldByGathers_eq, List.map_append, List.sum_append, parts]
    simp only [List.map_cons, List.map_nil, List.sum_cons, List.sum_nil, Gather.heldAt, eq_comm (a := q)]
    omega
  · intro d hd
    rcases List.mem_append.mp hd with hd | hd
    · exact h.heldOne d hd
    · obtain ⟨b, -, rfl⟩ := List.mem_map.mp hd
      exact h1
  · intro g hg
    rcases List.mem_append.mp hg with hg | hg
    · exact h.gatherHeldOne g hg
    · rw [List.mem_singleton.mp hg]; exact h1
  · rw [List.map_append, List.map_singleton, List.nodup_append]
    refine ⟨h.gatherIds, List.nodup_singleton _, fun i hi j hj => ?_⟩
    obtain ⟨g, hg, rfl⟩ := List.mem_map.mp hi
    rw [List.mem_singleton.mp hj]
    exact Nat.ne_of_lt (h.gatherNew g hg)
  · intro g hg
    rcases List.mem_append.mp hg with hg | hg
    · exact Nat.lt_succ_of_lt (h.gatherNew g hg)
    · rw [List.mem_singleton.mp hg]; exact Nat.lt_succ_self _

/-! ### Intake -/

theorem countersHeld_room {group free : Nat} (hf : 0 < free) :
    1 ≤ countersHeld group free ∧ countersHeld group free ≤ free := by
  unfold countersHeld
  split <;> omega

/-- Step 8 of an intake that found a free frame keeps the room: every request holds what it was given. -/
theorem carryOut (h : ReplyRoomOk s) (k : ReqKind) (r : Request) (entry : Nat) (hf : 0 < (s.port r.port).free) :
    ReplyRoomOk (Machine.carryOut k r entry s) := by
  have owner : ∀ b, ReplyRoomOk (Machine.dispatchTo b r entry (dispatchHeld k (s.port r.port).free) s) := by
    intro b
    refine h.dispatchTo b r entry ?_ ?_ <;> unfold dispatchHeld <;> split <;> omega
  have agent : ∀ a : Agent, a.dispatched = s.agent.dispatched → a.gathers = s.agent.gathers →
      a.nextId = s.agent.nextId → ∀ c contents,
        ReplyRoomOk (Machine.replyNow r entry c contents (s.withAgent a)) :=
    fun a hd hg hn c contents => (h.withAgent hd hg (Nat.le_of_eq hn.symm)).replyNow r entry c contents
      (by rwa [State.withAgent_port])
  cases k with
  | identify => exact h
  | status =>
    have cleared : ReplyRoomOk (drew 2 (s.withAgent s.agent.statusClears)) := by
      have hc : ReplyRoomOk (s.withAgent s.agent.statusClears) := by
        unfold Agent.statusClears
        split <;> exact h.withAgent rfl rfl (le_refl _)
      exact hc.of_ports (fun p => by simp [drew]) (.refl _)
    exact cleared.beginGather _ r entry _ (le_refl 1) (by simp only [drew, State.withDraws_port, State.withAgent_port]; exact hf)
  | counters =>
    simp only [Machine.carryOut, carryCounters]
    split
    · exact h.replyNow _ _ _ _ hf
    · exact h.beginGather _ r entry _ (countersHeld_room hf).1 (countersHeld_room hf).2
  | countersClear => exact h.beginGather _ r entry _ (le_refl 1) hf
  | restart =>
    simp only [Machine.carryOut, carryRestart]
    split
    · exact h.replyNow _ _ _ _ hf
    · have placed := h.placeAll r.port
        [⟨s.agent.buildReply r (replyPayload r .ok []), s.agent.egressOwed r.port + 1⟩] hf
      refine placed.withAgent ?_ ?_ (Nat.le_of_eq ?_) <;> unfold Agent.restarted Agent.load <;> simp only <;>
        split <;> simp [Agent.raised]
  | openSession =>
    simp only [Machine.carryOut, carryOpenSession]
    split
    · exact h.replyNow _ _ _ _ hf
    · exact agent (s.agent.opened _ _) rfl rfl rfl _ _
  | closeSession => exact agent s.agent.closed rfl rfl rfl _ _
  | alertAck =>
    simp only [Machine.carryOut, carryAlertAck]
    split
    · exact agent { s.agent with alerts := s.agent.alerts.acked } rfl rfl rfl _ _
    · exact h.replyNow _ _ _ _ hf
  | _ => exact owner _

theorem dropRequest (h : ReplyRoomOk s) (p : Port) : ReplyRoomOk (Machine.dropRequest p s) :=
  h.onPort p (fun _ => le_refl _) fun _ => rfl

theorem repeatRequest (h : ReplyRoomOk s) (e : CacheEntry) (r : Request) :
    ReplyRoomOk (Machine.repeatRequest e r s) := by
  have used : ReplyRoomOk (s.withAgent { s.agent with cache := cacheUse e s.agent.cache }) :=
    h.withAgent rfl rfl (le_refl _)
  unfold Machine.repeatRequest
  split
  · exact used.dropRequest _
  · split
    · next hfs => exact used.placeFrames _ _ (by rwa [State.withAgent_port])
    · exact used.dropRequest _

theorem intakeRequest (h : ReplyRoomOk s) (r : Request) : ReplyRoomOk (Machine.intakeRequest r s) := by
  unfold Machine.intakeRequest
  split
  · exact h.dropRequest _
  · next hfree =>
    have hf : 0 < (s.port r.port).free := Nat.pos_of_ne_zero hfree
    have uncached : ∀ payload, ReplyRoomOk (replyUncached r payload s) := fun payload => h.placeFrames _ _ hf
    split
    · exact uncached _
    · split
      · unfold carryIdentify
        split <;> exact uncached _
      · unfold intakeKnown
        split
        · exact uncached _
        · split
          · exact h.repeatRequest _ _
          · have made : ReplyRoomOk (makeEntry r s) := h.withAgent rfl rfl (Nat.le_succ _)
            have hf' : 0 < ((makeEntry r s).port r.port).free := by simpa [makeEntry] using hf
            unfold afterEntry
            split
            · exact made.replyNow _ _ _ _ hf'
            · split
              · exact made.replyNow _ _ _ _ hf'
              · exact made.carryOut _ _ _ hf'

theorem intake (h : ReplyRoomOk s) (p : Port) : ReplyRoomOk (Machine.intake p s) := by
  unfold Machine.intake
  split
  · exact h
  · next r _ =>
    refine ReplyRoomOk.intakeRequest ?_ _
    have taken : ReplyRoomOk (s.onPort p fun x => { x with request := none }) :=
      h.onPort p (fun _ => le_refl _) fun _ => rfl
    refine taken.withAgent ?_ ?_ (Nat.le_of_eq ?_) <;> unfold Agent.renewed <;> (repeat' split) <;> rfl

/-! ### Answers -/

/-- An answer that places no more frames than it held keeps the room: the state `s` still counts the request
that `t` no longer holds. -/
theorem answer (h : ReplyRoomOk s) (r : Request) (entry : Nat) {held : Nat} {ps : List (List Byte)}
    (hlen : ps.length ≤ held) (hv : ∀ q, (t.port q).reservation = (s.port q).reservation)
    (hr : ∀ q, (t.port q).reply = (s.port q).reply) (hn : t.agent.nextId = s.agent.nextId)
    (ha : ∀ q, heldSingly s.agent q + heldByGathers s.agent q
      = heldSingly t.agent q + heldByGathers t.agent q + if r.port = q then held else 0)
    (hd : ∀ d ∈ t.agent.dispatched, d ∈ s.agent.dispatched)
    (hg : t.agent.gathers.Sublist s.agent.gathers) :
    ReplyRoomOk (Machine.answer r entry held ps t) := by
  have held_res : ∀ q, (s.port q).reservation
      = heldSingly t.agent q + heldByGathers t.agent q + if r.port = q then held else 0 :=
    fun q => (h.reserved q).trans (ha q)
  have hagent : ∀ q, heldSingly (Machine.answer r entry held ps t).agent q = heldSingly t.agent q ∧
      heldByGathers (Machine.answer r entry held ps t).agent q = heldByGathers t.agent q := fun q => ⟨rfl, rfl⟩
  refine ⟨fun q => ?_, fun q => ?_, fun d hdm => h.heldOne d (hd d hdm),
    fun g hgm => h.gatherHeldOne g (hg.mem hgm), List.Nodup.sublist (hg.map _) h.gatherIds,
    fun g hgm => hn ▸ h.gatherNew g (hg.mem hgm)⟩ <;>
  by_cases hq : q = r.port
  · subst hq
    obtain ⟨-, hres⟩ := PortState.placeAll_reply (plainReplies (ps.map (t.agent.buildReply r)))
      { t.port r.port with reservation := (t.port r.port).reservation - held }
    have := held_res r.port
    rw [if_pos rfl] at this
    rw [answer_port_self, hres, (hagent _).1, (hagent _).2]
    simp only [hv]
    omega
  · have := held_res q
    rw [if_neg (Ne.symm hq)] at this
    rw [answer_port_other _ _ _ _ _ hq, (hagent _).1, (hagent _).2, hv, this, Nat.add_zero]
  · subst hq
    obtain ⟨hlen', hres⟩ := PortState.placeAll_reply (plainReplies (ps.map (t.agent.buildReply r)))
      { t.port r.port with reservation := (t.port r.port).reservation - held }
    have hheld := held_res r.port
    have hroom := h.room r.port
    rw [if_pos rfl] at hheld
    rw [answer_port_self, hres]
    simp only [hv, hr, length_plainReplies, List.length_map] at hlen' ⊢
    omega
  · rw [answer_port_other _ _ _ _ _ hq, hv, hr]
    exact h.room q

/-- A request carried out at its owner is answered with no more frames than it held (R138, R180). -/
theorem carry_length {b : Block} {k : ReqKind} {carry : Dispatch → State → State × List (List Byte)}
    (hc : Carries b k carry) (d : Dispatch) (s : State) (h1 : 1 ≤ d.held) :
    (carry d s).2.length ≤ d.held := by
  have operation : ∀ k refusal accept, (carryOperation k refusal accept d s).2.length ≤ d.held := by
    intro k refusal accept
    unfold carryOperation
    simp only
    split
    · exact h1
    · split <;> exact h1
  have deliveries : ∀ (r : Request) (count n : Nat) (c : Capture),
      (Capture.deliveries r count n c).length = n := by
    intro r count n
    induction n with
    | zero => exact fun _ => rfl
    | succ n ih => exact fun c => congrArg Nat.succ (ih c.advance)
  cases hc with
  | storeProgram | storeErase | storeLock | storeUnlockErase => exact operation _ _ _
  | readNext =>
    unfold carryReadNext
    split
    · exact h1
    · rw [deliveries]; exact h1
  | readBlock =>
    unfold carryReadBlock
    simp only
    split
    · exact h1
    · split
      · exact h1
      · rw [deliveries]
        exact Nat.le_trans (Nat.min_le_right _ _) (Nat.min_le_right _ _)
  | windowSet =>
    by_cases hin : d.request.windowInRange
    · rw [carryWindowSet_ok s hin]; exact h1
    · rw [carryWindowSet_refused s hin]; exact h1
  | tuneWrite => unfold carryTuneWrite; simp only; split <;> (try split) <;> exact h1
  | tuneRead => unfold carryTuneRead; simp only; split <;> exact h1
  | windowRead => unfold carryWindowRead; simp only; split <;> exact h1
  | pageRead => unfold carryPageRead; simp only; split <;> (try split) <;> exact h1
  | storeAbort => unfold carryAbort; simp only; split <;> (try split) <;> exact h1
  | storeClearFault => unfold carryClearFault; simp only; split <;> (try split) <;> exact h1
  | storeStatus => exact h1
  | captureArm => unfold carryArm; split <;> exact h1
  | captureStop => unfold carryStop; split <;> exact h1
  | captureClear => unfold carryClear; split <;> exact h1
  | captureMode => unfold carryMode; split <;> (try split) <;> exact h1
  | captureMark => unfold carryMark; split <;> exact h1
  | readSlot => unfold carryReadSlot; simp only; split <;> (try split) <;> exact h1
  | setReadCursor => unfold carrySetCursor; simp only; split <;> (try split) <;> exact h1

/-- What a request carried out at its owner changes of the Agent is no business of the reply room. -/
theorem carry_agent {b : Block} {k : ReqKind} {carry : Dispatch → State → State × List (List Byte)}
    (hc : Carries b k carry) (d : Dispatch) (s : State) : AgentMove s.agent (carry d s).1.agent := by
  have resolver : Carries .resolver k carry → AgentMove s.agent (carry d s).1.agent := fun h => by
    obtain ⟨x, -, hx⟩ := h.resolverSide d s
    rw [hx]
    exact .refl _
  cases b with
  | resolver => exact resolver hc
  | store => exact (Carries.storeSide hc d s).frame.agent
  | capture => exact (Carries.captureSide hc d s).frame.agent
  | _ => cases hc

theorem ownerEvent {b : Block} {k : ReqKind} {carry : Dispatch → State → State × List (List Byte)}
    (hc : Carries b k carry) (h : ReplyRoomOk s) : ReplyRoomOk (Machine.ownerEvent b k carry s) := by
  rcases ownerEvent_cases b k carry s with h' | ⟨d, hnext, hgather, -, h'⟩ <;> rw [h']
  · exact h
  · have perm := Agent.takeNext_perm hnext
    have hd : d ∈ s.agent.dispatched := perm.mem_iff.mpr List.mem_cons_self
    have ports := fun q => State.EgressOk.carry hc d (s.withAgent (s.agent.takeNext b)) q
    obtain ⟨hdisp, hgath, hnext', -⟩ := carry_agent hc d (s.withAgent (s.agent.takeNext b))
    rw [State.withAgent_agent] at hdisp hgath hnext'
    refine h.answer d.request d.entry (carry_length hc d _ (h.heldOne d hd)) (fun q => ?_) (fun q => ?_) hnext'
      (fun q => ?_) (fun e he => ?_) (hgath ▸ List.Sublist.refl _)
    · rw [ports, State.withAgent_port]
    · rw [ports, State.withAgent_port]
    · simp only [heldSingly_eq, heldByGathers_eq, hdisp, hgath, Agent.takeNext_gathers]
      rw [(perm.map _).sum_eq, List.map_cons, List.sum_cons]
      simp only [Dispatch.heldAt, hgather, true_and]
      omega
    · rw [hdisp] at he
      exact perm.mem_iff.mpr (List.mem_cons_of_mem _ he)

/-! ### Parts of gatherings -/

/-- A gathering is answered with no more frames than it held (R180, R197). -/
theorem payloads_length (g : Gather) (h1 : 1 ≤ g.held) : g.payloads.length ≤ g.held := by
  unfold Gather.payloads
  split
  · exact h1
  · split
    · next h2 => exact h2
    · exact h1
  · exact h1
  · exact h1

/-- A part read or cleared leaves the Agent, the Reply Queues and the reservations. -/
theorem part_frame {b : Block} {ofKind : GatherKind → Bool} {f : GatherKind → State → State × List Byte}
    (h : PartOf b ofKind f) (k : GatherKind) (s : State) : (f k s).1.agent = s.agent ∧
      ∀ p, ((f k s).1.port p).reply = (s.port p).reply ∧
        ((f k s).1.port p).reservation = (s.port p).reservation := by
  cases h with
  | status b => exact ⟨rfl, fun _ => ⟨rfl, rfl⟩⟩
  | counters b => exact ⟨rfl, fun _ => ⟨rfl, rfl⟩⟩
  | clear b =>
    cases b with
    | port q =>
      refine ⟨by simp [clearPart], fun p => ?_⟩
      simp only [clearPart, State.onPort_port]
      split
      · next hp => rw [hp]; exact ⟨rfl, rfl⟩
      · exact ⟨rfl, rfl⟩
    | classifier => exact ⟨rfl, fun p => by simp [clearPart]⟩
    | trigger => exact ⟨rfl, fun p => by simp [clearPart]⟩

/-- A gathering replaced by itself with a part given holds what it held, where its number is its own. -/
theorem gathers_give {l : List Gather} {g : Gather} (hn : (l.map (·.id)).Nodup) (hg : g ∈ l) (b : Block)
    (bytes : List Byte) :
    (∀ x ∈ l, ∃ y, (if x.id == g.id then g.give b bytes else x) = y ∧ y.id = x.id ∧ y.held = x.held ∧
      ∀ p, y.heldAt p = x.heldAt p) := by
  intro x hx
  by_cases hid : x.id = g.id
  · have hxg : x = g := List.inj_on_of_nodup_map hn hx hg hid
    subst hxg
    exact ⟨_, rfl, by simp [Gather.give], by simp [Gather.give], fun p => by simp [Gather.give, Gather.heldAt]⟩
  · exact ⟨x, by simp [hid], rfl, rfl, fun _ => rfl⟩

theorem partEvent {b : Block} {ofKind : GatherKind → Bool} {f : GatherKind → State → State × List Byte}
    (hf : PartOf b ofKind f) (h : ReplyRoomOk s) : ReplyRoomOk (Machine.partEvent b ofKind f s) := by
  rcases partEvent_cases b ofKind f s with h' | ⟨d, id, g, hnext, hid, hgather, -, h'⟩ <;> rw [h']
  · exact h
  obtain ⟨hg, rfl⟩ := Agent.gather_mem hgather
  have perm := Agent.takeNext_perm hnext
  obtain ⟨hagent, ports⟩ := part_frame hf g.kind (s.withAgent (s.agent.takeNext b))
  rw [State.withAgent_agent] at hagent
  simp only [State.withAgent_port] at ports
  have singly : ∀ q, (s.agent.dispatched.map (·.heldAt q)).sum
      = ((s.agent.takeNext b).dispatched.map (·.heldAt q)).sum := by
    intro q
    rw [(perm.map _).sum_eq, List.map_cons, List.sum_cons]
    simp [Dispatch.heldAt, hid]
  have left : ∀ e ∈ (s.agent.takeNext b).dispatched, e ∈ s.agent.dispatched :=
    fun e he => perm.mem_iff.mpr (List.mem_cons_of_mem _ he)
  generalize (f g.kind (s.withAgent (s.agent.takeNext b))).1 = u at hagent ports ⊢
  generalize (f g.kind (s.withAgent (s.agent.takeNext b))).2 = bytes
  by_cases hlast : g.waiting.erase b = []
  · have gperm := gathers_perm h.gatherIds hg
    rw [deliverPart_last hlast]
    refine h.answer g.request g.entry (payloads_length (g.give b bytes) (h.gatherHeldOne g hg)) (fun q => ?_)
      (fun q => ?_) ?_ (fun q => ?_) ?_ ?_
    · rw [State.withAgent_port]; exact (ports q).2
    · rw [State.withAgent_port]; exact (ports q).1
    · rw [State.withAgent_agent, hagent]; rfl
    · simp only [heldSingly_eq, heldByGathers_eq, State.withAgent_agent, hagent, Agent.takeNext_gathers, singly]
      rw [(gperm.map _).sum_eq, List.map_cons, List.sum_cons]
      simp only [Gather.heldAt]
      omega
    · rw [State.withAgent_agent, hagent]; exact left
    · rw [State.withAgent_agent, hagent]; exact List.filter_sublist
  · have given := gathers_give h.gatherIds hg b bytes
    rw [deliverPart_more hlast]
    refine ⟨fun q => ?_, fun q => ?_, ?_, ?_, ?_, ?_⟩ <;>
      simp only [State.withAgent_port, State.withAgent_agent, hagent, Agent.takeNext_gathers]
    · rw [(ports q).2, h.reserved q]
      simp only [heldSingly_eq, heldByGathers_eq, singly, List.map_map]
      congr 2
      refine List.map_congr_left fun x hx => ?_
      obtain ⟨y, hy, -, -, hh⟩ := given x hx
      rw [Function.comp, hy, hh]
    · rw [(ports q).1, (ports q).2]; exact h.room q
    · exact fun e he => h.heldOne e (left e he)
    · intro y hy
      obtain ⟨x, hx, rfl⟩ := List.mem_map.mp hy
      obtain ⟨y, hy, -, hh, -⟩ := given x hx
      rw [hy, hh]
      exact h.gatherHeldOne x hx
    · rw [List.map_map]
      refine (List.map_congr_left fun x hx => ?_) ▸ h.gatherIds
      obtain ⟨y, hy, hi, -, -⟩ := given x hx
      rw [Function.comp, hy, hi]
    · intro y hy
      obtain ⟨x, hx, rfl⟩ := List.mem_map.mp hy
      obtain ⟨y, hy, hi, -, -⟩ := given x hx
      rw [hy, hi]
      exact h.gatherNew x hx

/-! ### Every step -/

theorem alertSend (h : ReplyRoomOk s) : ReplyRoomOk (Machine.alertSend s) := by
  unfold Machine.alertSend
  split
  · exact h
  · next node _ =>
    simp only
    split
    · next hdue =>
      exact (h.placeFrames _ [s.agent.alertFrame node s.agent.alerts.sent] hdue.2).withAgent (by simp) (by simp) (by simp)
    · exact h

theorem elapse (h : ReplyRoomOk s) (n : Nat) : ReplyRoomOk (Machine.elapse n s) :=
  h.of_same rfl rfl (le_refl _) (fun p => by rw [elapse_port]; rfl) fun p => by
    rw [elapse_port]; exact h.room p

theorem course (ht : Course s t) : ReplyRoomOk s → ReplyRoomOk t := by
  induction ht with
  | refl => exact id
  | trans _ _ ih ih' => exact fun h => ih' (ih h)
  | elapse n s => exact fun h => h.elapse n
  | time | strap | classifier | windows | trigger =>
    exact fun h => h.of_ports (fun p => by simp) (.refl _)
  | port s p hf => exact fun h => h.onPort p hf.reply hf.reservation
  | agent s a ha => exact fun h => h.of_ports (fun p => by simp) ha
  | intake s p => exact fun h => h.intake p
  | alertSend s => exact fun h => h.alertSend
  | part hf s => exact fun h => h.partEvent hf
  | owner hc s => exact fun h => h.ownerEvent hc
  | store hf s =>
    intro h
    rcases hf.storeSide s with hx | ⟨n, hx⟩
    · exact h.of_ports hx.frame.port hx.frame.agent
    · exact (h.elapse n).of_ports hx.frame.port hx.frame.agent
  | takeRequest q s =>
    have hx := (CaptureSide.refl.takeRequest (s := s) q).frame
    exact fun h => h.of_ports hx.port hx.agent
  | stopCapture r s =>
    have hx := (CaptureSide.refl.stopCapture (s := s) r).frame
    exact fun h => h.of_ports hx.port hx.agent
  | autostart s =>
    have hx := (CaptureSide.refl (s := s)).autostart.frame
    exact fun h => h.of_ports hx.port hx.agent

/-- A bridge with no request under way and no frame queued or held has its reply room in order. -/
theorem of_fresh (hd : s.agent.dispatched = []) (hg : s.agent.gathers = [])
    (hp : ∀ p, (s.port p).reply = [] ∧ (s.port p).reservation = 0) : ReplyRoomOk s := by
  refine ⟨fun p => ?_, fun p => ?_, by simp [hd], by simp [hg], by simp [hg], by simp [hg]⟩
  · simp [heldSingly, heldByGathers, hd, hg, (hp p).2]
  · simp [hp p]

end ReplyRoomOk

/-- The load of a profile leaves what the Agent has under way. -/
theorem Agent.load_underWay (t : Store) (strap : BitVec 2) (a : Agent) :
    (a.load t strap).dispatched = a.dispatched ∧ (a.load t strap).gathers = a.gathers := by
  unfold Agent.load
  simp only
  split <;> exact ⟨rfl, rfl⟩

/-- Settles O57: by the course of each event; a request under way holds frames from its intake to its answer,
which places no more of them. -/
theorem stepsKeepReplyRoom : Obligations.StepsKeepReplyRoom := by
  intro s t hs hstep
  refine step_keeps (P := ReplyRoomOk) (fun s x h => h.of_ports (fun p => by simp) (.refl _))
    (fun n s h => h.elapse n) (fun g a n s _ => ?por) (fun s _ => ?loss) (fun p l s h => ?line)
    (fun f s hf h => ReplyRoomOk.course (Course.event hf s) h) hs hstep
  case por =>
    have fresh := Agent.load_underWay (s.store.volatileLost g) a (Agent.atPor (Profile.bare a) .absent a g)
    have started : ReplyRoomOk (startUp g a n s) :=
      .of_fresh fresh.1 fresh.2 fun p => by cases p <;> exact ⟨rfl, rfl⟩
    have hx := (CaptureSide.refl (s := startUp g a n s)).autostart.frame
    exact started.of_ports hx.port hx.agent
  case loss => exact .of_fresh rfl rfl fun p => by cases p <;> exact ⟨rfl, rfl⟩
  case line =>
    unfold lineChange
    split
    · exact h.onPort p (PortMove.lineChange l).reply (PortMove.lineChange l).reservation
    · exact h.onPort p (fun _ => le_refl _) fun _ => rfl

end Sys2Proof.Machine
end


section
/-! Proof that every step keeps the store, its operation in flight and the pins in order (9.1, 9.2, 3.5): what
the acceptance, the phases and the end of an operation make of them; then the course of each event. -/

namespace Sys2Proof.Machine

/-! ### The tables the store's order is about -/

/-- The store and the pins in order, with the tables that hold them in canonical form. -/
structure StoreKept (s : State) : Prop where
  tables : s.store.TablesWf
  pins : Cells.Wf false s.resolver.pins
  ok : StoreOk s

theorem Store.state_condemn {t : Store} (h : t.TablesWf) (p q : Nat) :
    (t.condemn p).state q = if q = p then .invalid else t.state q := Cells.read_write h.1 p q _

@[simp] theorem Store.isLocked_condemn (t : Store) (p q : Nat) : (t.condemn p).isLocked q = t.isLocked q := rfl

@[simp] theorem Store.engine_wipe (t : Store) (p : Nat) : (t.wipe p).engine = t.engine := rfl
@[simp] theorem Store.engine_fillPage (t : Store) (p : Nat) (ws : List Word) :
    (t.fillPage p ws).engine = t.engine := rfl

theorem Resolver.pinned_setPin {x : Resolver} (h : Cells.Wf false x.pins) (t u : Nat) (b : Bool) :
    (x.setPin t b).pinned u = if u = t then b else x.pinned u := Cells.read_write h t u b

theorem Resolver.pinned_unpin {x : Resolver} (h : Cells.Wf false x.pins) (source : Option Nat) (u : Nat) :
    (x.unpin source).pinned u = if source = some u then false else x.pinned u := by
  cases source with
  | none => rfl
  | some t => simp only [Resolver.unpin, Resolver.pinned_setPin h, Option.some.injEq, eq_comm (a := t)]

/-! ### The engine READY -/

/-- With the engine READY and nothing pinned the store is in order. -/
theorem StoreOk.of_ready {s : State} (he : s.store.engine = none) (hp : ∀ u, s.resolver.pinned u = false) :
    StoreOk s :=
  ⟨fun h => absurd he h, fun h => absurd he h, fun o h => by simp [he] at h,
    fun u => by simp [he, hp]⟩

theorem StoreOk.unpinned {s : State} (h : StoreOk s) (he : s.store.engine = none) (u : Nat) :
    s.resolver.pinned u = false := by
  have := (h.pinned u).not
  simpa [he] using this

namespace StoreKept

variable {s t : State}

/-- The order of the store does not depend on anything but the store and the pins. -/
theorem of_same (h : StoreKept s) (hs : t.store = s.store) (hp : t.resolver.pins = s.resolver.pins) :
    StoreKept t := by
  have hpin : ∀ u, t.resolver.pinned u = s.resolver.pinned u := fun u => by
    unfold Resolver.pinned
    rw [hp]
  refine ⟨hs ▸ h.tables, hp ▸ h.pins, ⟨?_, ?_, ?_, fun u => ?_⟩⟩
  · rw [hs]; exact h.ok.busyLatch
  · rw [hs]; exact h.ok.busyGuard
  · rw [hs]; exact h.ok.operation
  · rw [hs, hpin]; exact h.ok.pinned u

/-- The end of the operation in flight leaves nothing pinned: the source was the only page that was (R45). -/
theorem ended (h : StoreKept s) {o : Operation} (ho : (s.store.engine.map (·.source)) = some o.source)
    (e : Ending) : StoreKept (endOperation o e s) := by
  obtain ⟨x, hx, hsrc⟩ := Option.map_eq_some_iff.mp ho
  have pins : Cells.Wf false (s.resolver.unpin o.source).pins := by
    cases o.source with
    | none => exact h.pins
    | some n => exact Cells.wf_write h.pins n false
  refine ⟨h.tables.ended o e _, pins, .of_ready rfl fun u => ?_⟩
  rw [endOperation_resolver, Resolver.pinned_unpin h.pins]
  split
  · rfl
  · next hne =>
    have hnot : ¬ s.resolver.pinned u = true := fun hp => by
      obtain ⟨y, hy, hys⟩ := (h.ok.pinned u).mp hp
      rw [hx] at hy
      cases hy
      exact hne (hsrc ▸ hys)
    simpa using hnot

theorem raise (h : StoreKept s) (c : AlertCond) : StoreKept (Machine.raise c s) := h.of_same rfl rfl

/-- A change of the store that keeps its tables canonical, its engine, latch and level, and of the page states
and lock flags those of the page in flight. -/
theorem withStore (h : StoreKept s) {x : Store} (hx : x.TablesWf) (he : x.engine = s.store.engine)
    (hl : x.latch = s.store.latch) (hg : x.guard = s.store.guard)
    (hp : ∀ o, s.store.engine = some o → x.state o.page = s.store.state o.page ∧
      x.isLocked o.page = s.store.isLocked o.page) : StoreKept (s.withStore x) := by
  refine ⟨hx, h.pins, ⟨?_, ?_, fun o ho => ?_, fun u => ?_⟩⟩ <;> simp only [State.withStore_store] at *
  · rw [he, hl]; exact h.ok.busyLatch
  · rw [he, hg]; exact h.ok.busyGuard
  · rw [he] at ho
    obtain ⟨hstate, hlock⟩ := hp o ho
    have ok := h.ok.operation o ho
    exact ⟨ok.page, ok.source, ok.sourcePage, ok.phase, ok.erasing, fun hk => hstate.trans (ok.invalid hk),
      hlock ▸ ok.lockFlag⟩
  · rw [he]; exact h.ok.pinned u

theorem wipe (h : StoreKept s) (p : Nat) : StoreKept (s.withStore (s.store.wipe p)) :=
  h.withStore (h.tables.wipe p) rfl rfl rfl fun _ _ => ⟨rfl, rfl⟩

theorem fillPage (h : StoreKept s) (p : Nat) (ws : List Word) :
    StoreKept (s.withStore (s.store.fillPage p ws)) :=
  h.withStore (h.tables.fillPage p ws) rfl rfl rfl fun _ _ => ⟨rfl, rfl⟩

/-- Time shortens the phase in flight and leaves the operation what it is (R154). -/
theorem elapse (h : StoreKept s) (n : Nat) : StoreKept (Machine.elapse n s) := by
  have hmap : (elapseStore n s.store).engine = s.store.engine.map fun o => { o with left := o.left - n } := rfl
  refine ⟨h.tables, h.pins, ⟨fun he => h.ok.busyLatch ?_, fun he => h.ok.busyGuard ?_, fun o ho => ?_,
    fun u => ?_⟩⟩
  · simpa [hmap] using he
  · simpa [hmap] using he
  · rw [elapse_store, hmap] at ho
    obtain ⟨x, hx, rfl⟩ := Option.map_eq_some_iff.mp ho
    have ok := h.ok.operation x hx
    exact ⟨ok.page, ok.source, ok.sourcePage, ok.phase, ok.erasing, ok.invalid, ok.lockFlag⟩
  · rw [elapse_resolver, h.ok.pinned u, elapse_store, hmap]
    cases s.store.engine with
    | none => simp
    | some o => simp

/-! ### Acceptance -/

/-- What the checks of R158 leave true of the state they let pass. -/
theorem operation_admitted {node : Byte} {p : Nat} (h : operationRefusal node p s = none) :
    s.store.guard = true ∧ s.store.engine = none ∧ s.store.latch = .none ∧ p ≤ 10 := by
  unfold operationRefusal at h
  split at h
  · cases h
  split at h
  · cases h
  split at h
  · cases h
  split at h
  · cases h
  split at h
  · cases h
  · next hg he hl hp => exact ⟨by simpa using hg, by simpa using he, by simpa using hl, Nat.not_lt.mp hp⟩

/-- An operation begun on a READY engine that passed the checks of R158 leaves the store in order, where the
page's state and lock flag fit its kind and the source is what is pinned. -/
theorem begun {p : Nat} {x : Store} {y : Resolver} {k : OpKind} {source : Option Nat} (hx : x.TablesWf)
    (hy : Cells.Wf false y.pins) (hg : x.guard = true) (hl : x.latch = .none) (hp : p ≤ 10)
    (hsrc : k = .program ↔ source ≠ none) (hpage : ∀ n, source = some n → n ≤ 3)
    (hinv : k ≠ .lock → x.state p = .invalid) (hlock : x.isLocked p = true ↔ k = .unlockErase)
    (hpin : ∀ u, y.pinned u = true ↔ source = some u) :
    StoreKept ((s.withStore (x.begin k p source)).withResolver y) := by
  have phase : k.firstPhase = .locking ↔ k = .lock := by cases k <;> decide
  have erasing : k = .erase ∨ k = .unlockErase → k.firstPhase = .erasing := by cases k <;> decide
  refine ⟨hx, hy, ⟨fun _ => hl, fun _ => hg, fun o ho => ?_, fun u => ?_⟩⟩
  · cases ho
    exact ⟨hp, hsrc, hpage, phase, erasing, hinv, hlock⟩
  · rw [State.withResolver_resolver, hpin]
    simp [Store.begin]

theorem carryOperation (h : StoreKept s) {k : OpKind} {refusal : Request → State → Option ResultCode}
    {accept : Request → State → State} (d : Dispatch)
    (ha : operationRefusal d.request.source (d.request.field 1) s = none → refusal d.request s = none →
      StoreKept (accept d.request s)) : StoreKept (Machine.carryOperation k refusal accept d s).1 := by
  unfold Machine.carryOperation
  simp only
  split
  · exact h
  · next hop =>
    split
    · exact h
    · next href => exact ha hop href

theorem acceptProgram (h : StoreKept s) {r : Request} (hop : operationRefusal r.source (r.field 1) s = none)
    (href : programRefusal r s = none) : StoreKept (Machine.acceptProgram r s) := by
  obtain ⟨hguard, hready, hlatch, hpage⟩ := operation_admitted hop
  unfold programRefusal at href
  split at href
  · cases href
  split at href
  · cases href
  next htuning hlocked =>
  refine begun (h.tables.condemn _) (Cells.wf_write h.pins _ _) hguard hlatch hpage (by simp)
    (fun n hn => by cases hn; exact Nat.not_lt.mp htuning) (fun _ => ?_) ?_ fun u => ?_
  · rw [Store.state_condemn h.tables, if_pos rfl]
  · simpa using hlocked
  · rw [Resolver.pinned_setPin h.pins, h.ok.unpinned hready]
    simp [eq_comm]

theorem acceptErase (h : StoreKept s) {r : Request} (hop : operationRefusal r.source (r.field 1) s = none)
    (href : eraseRefusal r s = none) : StoreKept (Machine.acceptErase r s) := by
  obtain ⟨hguard, hready, hlatch, hpage⟩ := operation_admitted hop
  unfold eraseRefusal at href
  split at href
  · cases href
  next hlocked =>
  refine begun (y := s.resolver) (h.tables.condemn _) h.pins hguard hlatch hpage (by simp) (by simp)
    (fun _ => ?_) ?_ fun u => ?_
  · rw [Store.state_condemn h.tables, if_pos rfl]
  · simpa using hlocked
  · simp [h.ok.unpinned hready]

theorem acceptLock (h : StoreKept s) {r : Request} (hop : operationRefusal r.source (r.field 1) s = none)
    (href : lockRefusal r s = none) : StoreKept (Machine.acceptLock r s) := by
  obtain ⟨hguard, hready, hlatch, hpage⟩ := operation_admitted hop
  unfold lockRefusal at href
  split at href
  · cases href
  next hlocked =>
  refine begun (y := s.resolver) h.tables h.pins hguard hlatch hpage (by simp) (by simp)
    (fun hk => absurd rfl hk) ?_ fun u => ?_
  · simpa using hlocked
  · simp [h.ok.unpinned hready]

theorem acceptUnlock (h : StoreKept s) {r : Request} (hop : operationRefusal r.source (r.field 1) s = none)
    (href : unlockRefusal r s = none) : StoreKept (Machine.acceptUnlock r s) := by
  obtain ⟨hguard, hready, hlatch, hpage⟩ := operation_admitted hop
  unfold unlockRefusal at href
  split at href
  · cases href
  split at href
  · cases href
  next hlocked =>
  refine begun (y := s.resolver) (h.tables.condemn _) h.pins hguard hlatch hpage (by simp) (by simp)
    (fun _ => ?_) ?_ fun u => ?_
  · rw [Store.state_condemn h.tables, if_pos rfl]
  · simpa using hlocked
  · simp [h.ok.unpinned hready]

theorem carryStore {k : ReqKind} {carry : Dispatch → State → State × List (List Byte)}
    (hc : Carries .store k carry) (h : StoreKept s) (d : Dispatch) : StoreKept (carry d s).1 := by
  cases hc with
  | storeProgram => exact h.carryOperation d h.acceptProgram
  | storeErase => exact h.carryOperation d h.acceptErase
  | storeLock => exact h.carryOperation d h.acceptLock
  | storeUnlockErase => exact h.carryOperation d h.acceptUnlock
  | storeAbort =>
    unfold carryAbort
    simp only
    split
    · exact h
    · split
      · exact h
      · next o ho => exact h.ended (by rw [ho]; rfl) _
  | storeClearFault =>
    unfold carryClearFault
    simp only
    split
    · exact h
    · split
      · exact h
      · next hready =>
        have hready : s.store.engine = none := by simpa using hready
        exact ⟨h.tables, h.pins, .of_ready hready (h.ok.unpinned hready)⟩
  | storeStatus => exact h.of_same rfl rfl

/-! ### Phases -/

/-- The next phase of a program leaves the operation a legal one (R154). -/
theorem nextPhase (h : StoreKept s) {o x : Operation} (hx : s.store.engine = some x) (hpage : x.page = o.page)
    (hk : x.kind = o.kind) (hsrc : x.source = o.source) (hprog : o.kind = .program) {p : Phase}
    (hp : p ≠ .locking) : StoreKept (Machine.nextPhase o p s) := by
  have ok := h.ok.operation x hx
  have busy : s.store.engine ≠ none := by simp [hx]
  refine ⟨h.tables, h.pins, ⟨fun _ => h.ok.busyLatch busy, fun _ => h.ok.busyGuard busy, fun y hy => ?_,
    fun u => ?_⟩⟩
  · cases hy
    refine ⟨hpage ▸ ok.page, hk ▸ hsrc ▸ ok.source, hsrc ▸ ok.sourcePage, ?_, ?_, hk ▸ hpage ▸ ok.invalid,
      hk ▸ hpage ▸ ok.lockFlag⟩
    · simp [hp, hprog]
    · simp [hprog]
  · simp only [Machine.nextPhase, State.withStore_resolver, State.withStore_store]
    rw [h.ok.pinned u, hx]
    simp [hsrc]

/-- A phase event: its act may take the operation in flight as it was before the time left of it passed. -/
theorem phaseEvent {ends : Operation → Bool} {f : Operation → State → State} (h : StoreKept s)
    (hf : ∀ o u, ends o = true → StoreKept u → u.store.engine = some { o with left := 0 } → StoreKept (f o u)) :
    StoreKept (Machine.phaseEvent ends f s) := by
  rcases phaseEvent_cases ends f s with h' | ⟨o, ho, hends, h'⟩ <;> rw [h']
  · exact h
  · refine hf o _ hends (h.elapse _) ?_
    simp [elapseStore, ho]

/-- A change of the page states, lock flags or words, followed by the end of the operation. -/
theorem withStore_ended (h : StoreKept s) {o x : Operation} {y : Store} (hx : s.store.engine = some x)
    (hsrc : x.source = o.source) (hy : y.TablesWf) (e : Ending) :
    StoreKept (endOperation o e (s.withStore y)) := by
  have := h.ended (o := o) (by rw [hx, ← hsrc]; rfl) e
  exact ⟨hy.ended o e _, this.pins, .of_ready rfl fun u => this.ok.unpinned rfl u⟩

theorem storeEvent {f : State → State} (hf : StoreEvent f) (h : StoreKept s) : StoreKept (f s) := by
  cases hf with
  | programErased =>
    refine h.phaseEvent fun o u hends hu hx => ?_
    simp only [Bool.and_eq_true, beq_iff_eq] at hends
    exact (hu.wipe o.page).nextPhase hx rfl rfl rfl hends.1 (by decide)
  | programWritten =>
    refine h.phaseEvent fun o u hends hu hx => ?_
    simp only [Bool.and_eq_true, beq_iff_eq] at hends
    have filled := hu.fillPage o.page (wholePage (u.resolver.word o.sourcePage))
    exact filled.nextPhase (x := { o with left := 0 }) (by simpa using hx) rfl rfl rfl hends.1 (by decide)
  | programVerified held =>
    refine h.phaseEvent fun o u _ hu hx => ?_
    split
    · exact (hu.withStore_ended hx rfl (hu.tables.setState _ _) _).raise _
    · exact (hu.ended (by rw [hx]; rfl) _).raise _
  | erased succeeded =>
    refine h.phaseEvent fun o u _ hu hx => ?_
    split
    · exact (hu.withStore_ended hx rfl (((hu.tables.wipe _).setState _ _).setLock _ _) _).raise _
    · exact (hu.ended (by rw [hx]; rfl) _).raise _
  | lockDone =>
    refine h.phaseEvent fun o u _ hu hx => ?_
    exact (hu.withStore_ended hx rfl (hu.tables.setLock _ _) _).raise _
  | guardFalls =>
    unfold Machine.guardFalls
    simp only
    split
    · next hready => exact ⟨h.tables, h.pins, .of_ready hready (h.ok.unpinned hready)⟩
    · next o ho =>
      exact (h.withStore_ended (o := o) (y := { s.store with guard := false }) ho rfl h.tables _).raise _
  | guardRises =>
    exact ⟨h.tables, h.pins, ⟨h.ok.busyLatch, fun _ => rfl,
      fun o ho => by
        have ok := h.ok.operation o ho
        exact ⟨ok.page, ok.source, ok.sourcePage, ok.phase, ok.erasing, ok.invalid, ok.lockFlag⟩,
      h.ok.pinned⟩⟩

/-! ### Every step -/

theorem course (ht : Course s t) : StoreKept s → StoreKept t := by
  induction ht with
  | refl => exact id
  | trans _ _ ih ih' => exact fun h => ih' (ih h)
  | elapse n s => exact fun h => h.elapse n
  | time | strap | classifier | trigger | agent => exact fun h => h.of_same rfl rfl
  | port => exact fun h => h.of_same (by simp) (by simp)
  | windows s x hx => exact fun h => h.of_same rfl hx
  | intake s p =>
    have hb := (AgentSide.refl (s := s)).intake p |>.blocks
    exact fun h => h.of_same hb.store (by rw [hb.resolver])
  | alertSend s =>
    have hb := (AgentSide.alertSend (s := s)).blocks
    exact fun h => h.of_same hb.store (by rw [hb.resolver])
  | @part b ofKind f hf s =>
    intro h
    rcases partEvent_cases b ofKind f s with h' | ⟨d, id, g, -, -, -, -, h'⟩ <;> rw [h']
    · exact h
    · have hb := fun u bytes => (AgentSide.refl (s := u)).deliverPart g b bytes |>.blocks
      refine h.of_same ?_ ?_
      · rw [(hb _ _).store]
        cases hf with
        | status | counters => rfl
        | clear b => cases b <;> simp [clearPart]
      · rw [(hb _ _).resolver]
        cases hf with
        | status | counters => rfl
        | clear b => cases b <;> simp [clearPart]
  | @owner b k carry hc s =>
    intro h
    rcases ownerEvent_cases b k carry s with h' | ⟨d, -, -, -, h'⟩ <;> rw [h']
    · exact h
    · refine StoreKept.of_same (s := (carry d (s.withAgent (s.agent.takeNext b))).1) ?_ (answer_store _ _ _ _ _)
        (by rw [answer_resolver])
      have taken : StoreKept (s.withAgent (s.agent.takeNext b)) := h.of_same rfl rfl
      have resolver : Carries .resolver k carry → StoreKept (carry d (s.withAgent (s.agent.takeNext b))).1 := by
        intro hr
        obtain ⟨x, hp, hx⟩ := hr.resolverSide d (s.withAgent (s.agent.takeNext b))
        rw [hx]
        exact taken.of_same rfl hp
      cases b with
      | resolver => exact resolver hc
      | store => exact carryStore hc taken d
      | capture =>
        have hx := (Carries.captureSide hc d (s.withAgent (s.agent.takeNext .capture))).frame
        exact taken.of_same hx.store (by rw [hx.resolver])
      | _ => cases hc
  | store hf s => exact fun h => h.storeEvent hf
  | takeRequest q s =>
    have hx := (CaptureSide.refl.takeRequest (s := s) q).frame
    exact fun h => h.of_same hx.store (by rw [hx.resolver])
  | stopCapture r s =>
    have hx := (CaptureSide.refl.stopCapture (s := s) r).frame
    exact fun h => h.of_same hx.store (by rw [hx.resolver])
  | autostart s =>
    have hx := (CaptureSide.refl (s := s)).autostart.frame
    exact fun h => h.of_same hx.store (by rw [hx.resolver])

/-- The store after POR or a loss of power: nothing in flight and nothing pinned (R173). -/
theorem fresh (h : StoreKept s) {g : Bool} (hs : t.store = s.store.volatileLost g)
    (hr : t.resolver = Resolver.atPor) : StoreKept t := by
  refine ⟨hs ▸ h.tables, hr ▸ Cells.wf_nil, .of_ready (by rw [hs]; rfl) fun u => ?_⟩
  rw [hr]
  rfl

end StoreKept

/-- Settles O58: by the course of each event; an operation is begun with the checks of R158 behind it, and its
end clears the one pin there is. -/
theorem stepsKeepStoreAndPins : Obligations.StepsKeepStoreAndPins := by
  intro s t htables hs hstep
  have kept : StoreKept s := ⟨htables.storeWf, htables.pins, hs⟩
  refine (step_keeps (P := StoreKept) (fun s x h => h.of_same rfl rfl) (fun n s h => h.elapse n)
    (fun g a n s h => ?por) (fun s h => h.fresh rfl rfl) (fun p l s h => ?line)
    (fun f s hf h => StoreKept.course (Course.event hf s) h) kept hstep).ok
  case por =>
    have started : StoreKept (startUp g a n s) := h.fresh rfl rfl
    have hx := (CaptureSide.refl (s := startUp g a n s)).autostart.frame
    exact started.of_same hx.store (by rw [hx.resolver])
  case line =>
    unfold lineChange
    split <;> exact h.of_same (by simp) (by simp)

end Sys2Proof.Machine
end


section
/-! Proof that every step keeps the cursors, the unread count, the capture state and the serials in order
(7.1 to 7.5): the cursors under a write and a read, what settles a capture state, then the course of each event. -/

namespace Sys2Proof.Machine

/-! ### The cursors -/

theorem stepsTo_le {c wc u : Nat} (hw : wc ≤ 1023) (h : stepsTo c wc = some u) : u ≤ 1022 := by
  unfold stepsTo Config.unreadMax Config.lastSlot at h
  grind

theorem nextSlot_eq (x : Nat) : nextSlot x = if x = 0 ∨ x = 1023 then 1 else x + 1 := rfl

/-- A record written is one step more to the write cursor (R117). -/
theorem stepsTo_written {c wc u : Nat} (hc : c ≤ 1023) (hw : wc ≤ 1023) (h : stepsTo c wc = some u)
    (hu : u < 1022) : stepsTo c (nextSlot wc) = some (u + 1) := by
  rw [nextSlot_eq]
  unfold stepsTo Config.unreadMax Config.lastSlot at *
  grind

/-- The oldest record given up for a record written leaves the number of steps (R117). -/
theorem stepsTo_overwritten {c wc : Nat} (hc : c ≤ 1023) (hw : wc ≤ 1023) (h : stepsTo c wc = some 1022) :
    stepsTo (nextSlot c) (nextSlot wc) = some 1022 := by
  rw [nextSlot_eq, nextSlot_eq]
  unfold stepsTo Config.unreadMax Config.lastSlot at *
  grind

/-- A cursor read is one step less to the write cursor (R135). -/
theorem stepsTo_advanced {c wc u : Nat} (hc : c ≤ 1023) (hw : wc ≤ 1023) (h : stepsTo c wc = some (u + 1)) :
    stepsTo (nextSlot c) wc = some u := by
  rw [nextSlot_eq]
  unfold stepsTo Config.unreadMax Config.lastSlot at *
  grind

/-! ### The cursors and the ring in order -/

/-- The part of the capture's order that every write and every read keeps, whatever the capture state: the
cursors, the unread count and the slots, and, where the order of serials is to be kept too (`o`), the ring
canonical and its serials rising. -/
structure RingKept (o : Prop) (c : Capture) : Prop where
  wcRange : c.wc ≤ 1023
  rcRange : c.rc ≤ 1023
  unread : stepsTo c.rc c.wc = some c.unread
  slots : ∀ e ∈ c.ring, 1 ≤ e.1 ∧ e.1 ≤ 1023
  serial : c.nextSerial ≠ 0
  rising : o → Cells.Wf none c.ring ∧ SerialsOk c

/-- The capture in order, with its serials where their order is to be kept too. -/
structure CaptureKept (o : Prop) (c : Capture) : Prop where
  ok : CaptureOk c
  rising : o → Cells.Wf none c.ring ∧ SerialsOk c

theorem SerialsOk.of_same {c c' : Capture} (h : SerialsOk c) (hr : c'.ring = c.ring) (hw : c'.wc = c.wc)
    (hn : c'.nextSerial = c.nextSerial) : SerialsOk c' := by
  have hslot : ∀ i, c'.slot i = c.slot i := fun i => by unfold Capture.slot; rw [hr]
  exact ⟨fun h0 i => (hslot i).trans (h.resting (hw ▸ h0) i),
    fun i r d hs hd => hn ▸ h.rising i r d (hslot i ▸ hs) (hw ▸ hd)⟩

namespace RingKept

variable {o : Prop} {c : Capture}

theorem unread_le (h : RingKept o c) : c.unread ≤ 1022 := stepsTo_le h.wcRange h.unread

theorem of_same {c' : Capture} (h : RingKept o c) (hr : c'.ring = c.ring) (hw : c'.wc = c.wc)
    (hc : c'.rc = c.rc) (hu : c'.unread = c.unread) (hn : c'.nextSerial = c.nextSerial) : RingKept o c' :=
  ⟨hw ▸ h.wcRange, hc ▸ h.rcRange, by rw [hc, hw, hu]; exact h.unread, hr ▸ h.slots, hn ▸ h.serial,
    fun ho => ⟨hr ▸ (h.rising ho).1, (h.rising ho).2.of_same hr hw hn⟩⟩

/-- In STOPPED with no limit nothing more is asked of a capture than its cursors and its ring. -/
theorem stopped_ok (h : RingKept o c) (hs : c.state = .stopped) (hl : c.limit ≤ 65535) : CaptureKept o c :=
  ⟨⟨h.wcRange, h.rcRange, h.unread, h.slots, h.serial, by simp [hs], by simp [hs], by simp [hs], by simp [hs],
    hl, by simp [hs]⟩, h.rising⟩

/-- An ARMED capture with no record missed, short of its limit and of filling, is in order. -/
theorem armed_ok (h : RingKept o c) (hs : c.state = .armed) (hf : c.mode = .fill → c.unread ≤ 1021)
    (hm : c.missed = 0) (hl : c.limit ≤ 65535) (hopen : c.limit = 0 ∨ c.limitCount < c.limit) :
    CaptureKept o c :=
  ⟨⟨h.wcRange, h.rcRange, h.unread, h.slots, h.serial, by simp [hs], by simp [hs], fun _ => hf, fun _ => hm, hl,
    fun _ => hopen⟩, h.rising⟩

/-- A record placed in the next slot, with the cursors that fit it. -/
theorem put (h : RingKept o c) (st : Stamp) (b : RecordBody) {rc u n : Nat} {ow : Count} {c' : Capture}
    (hc : c' = { c.put st b with rc := rc, unread := u, limitCount := n, overwritten := ow }) (hrc : rc ≤ 1023)
    (hu : stepsTo rc (nextSlot c.wc) = some u) : RingKept o c' := by
  have hn := nextSlot_range h.wcRange
  subst hc
  refine ⟨hn.2, hrc, hu, fun e he => ?_, serialAfter_ne_zero _, fun ho => ?_⟩
  · rcases Cells.mem_write he with hmem | ⟨rfl, -⟩
    · exact h.slots e hmem
    · exact hn
  · obtain ⟨hw, hserials⟩ := h.rising ho
    have stopped : RingKept o { c with state := .stopped, limit := 0 } := h.of_same rfl rfl rfl rfl rfl
    have rose := Capture.put_serials (stopped.stopped_ok rfl (Nat.zero_le _)).ok hw
      (hserials.of_same rfl rfl rfl) st b
    exact ⟨Cells.wf_write hw _ _, rose.of_same rfl rfl rfl⟩

theorem write (h : RingKept o c) (st : Stamp) (b : RecordBody) : RingKept o (c.write st b) := by
  unfold Capture.write
  split
  · next hroom => exact h.put st b rfl h.rcRange (stepsTo_written h.rcRange h.wcRange h.unread hroom)
  · next hroom =>
    have hfull : c.unread = 1022 := Nat.le_antisymm h.unread_le (Nat.not_lt.mp hroom)
    have steps := h.unread
    rw [hfull] at steps
    split
    · exact h.put st b (u := c.unread) rfl (nextSlot_range h.rcRange).2
        (hfull ▸ stepsTo_overwritten h.rcRange h.wcRange steps)
    · exact h

/-- `k` cursor reads of as many unread slots (R135, R137). -/
theorem advanceBy {k : Nat} : ∀ {c : Capture}, RingKept o c → k ≤ c.unread → RingKept o (c.advanceBy k) := by
  induction k with
  | zero => exact fun h _ => h
  | succ k ih =>
    intro c h hk
    have steps : stepsTo c.rc c.wc = some (c.unread - 1 + 1) := by
      rw [h.unread]
      congr 1
      omega
    have moved : RingKept o c.advance :=
      ⟨h.wcRange, (nextSlot_range h.rcRange).2, stepsTo_advanced h.rcRange h.wcRange steps, h.slots, h.serial,
        fun ho => ⟨(h.rising ho).1, (h.rising ho).2.of_same rfl rfl rfl⟩⟩
    exact ih moved (by simp only [Capture.advance]; omega)

/-- The read cursor set to a slot from which the write cursor is reached (R142). -/
theorem cursorSet (h : RingKept o c) {slot u : Nat} (hi : slot ≤ 1023) (hu : stepsTo slot c.wc = some u) :
    RingKept o { c with rc := slot, unread := u } :=
  ⟨h.wcRange, hi, hu, h.slots, h.serial,
    fun ho => ⟨(h.rising ho).1, (h.rising ho).2.of_same rfl rfl rfl⟩⟩

end RingKept

/-! ### Writes, reads and the capture state -/

theorem Capture.write_state (c : Capture) (st : Stamp) (b : RecordBody) :
    (c.write st b).state = c.state ∧ (c.write st b).mode = c.mode ∧ (c.write st b).limit = c.limit ∧
      (c.write st b).limitCount = c.limitCount ∧ (c.write st b).missed = c.missed := by
  rcases c.write_cases st b with ⟨hx, -, -⟩ | ⟨u, r, o, hx⟩ <;> simp [hx]

theorem Capture.write_unread_le (c : Capture) (st : Stamp) (b : RecordBody) :
    (c.write st b).unread ≤ c.unread + 1 := by
  unfold Capture.write
  grind [Capture.put]

theorem Capture.advanceBy_unread (k : Nat) : ∀ c : Capture, (c.advanceBy k).unread = c.unread - k := by
  induction k with
  | zero => exact fun c => rfl
  | succ k ih =>
    intro c
    rw [Capture.advanceBy, ih]
    simp only [Capture.advance]
    omega

theorem Request.limit_le (r : Request) : r.limit ≤ 65535 := by
  have h1 := (r.payload.getD 1 0).isLt
  have h2 := (r.payload.getD (1 + 1) 0).isLt
  unfold Request.limit Request.field2 Request.field
  split <;> omega

theorem Capture.advanceBy_eq (k : Nat) : ∀ c : Capture,
    c.advanceBy k = { c with rc := (c.advanceBy k).rc, unread := (c.advanceBy k).unread } := by
  induction k with
  | zero => exact fun c => rfl
  | succ k ih =>
    intro c
    have := ih c.advance
    simp only [Capture.advanceBy]
    rw [this]
    rfl

/-- The Capture Unit as CAPTURE-ARM sets it before it writes the START record (R122). -/
def Capture.arming (c : Capture) (limit : Nat) : Capture :=
  { c with missed := 0, limitCount := 0, limit := limit, stopReason := .none, state := .armed }

theorem armCapture_eq (limit : Nat) (s : State) :
    armCapture limit s = settleFull (sendNotice .arm
      (s.withCapture ((s.capture.arming limit).write (stampNow s) (.start s.capture.mode limit)))) := rfl

theorem Capture.resumes_iff (c : Capture) : c.resumes = true ↔ c.state = .full ∧ c.unread ≤ 1006 := by
  rw [Capture.resumes, Bool.and_eq_true, beq_iff_eq, decide_eq_true_iff]
  rfl

/-- The Capture Unit ARMED again, its missed count recorded and cleared (R120). -/
def Capture.resumed (c : Capture) (st : Stamp) : Capture :=
  if c.missed = 0 then { c with state := .armed }
  else { ({ c with state := .armed } : Capture).write st (.gap c.missed) with missed := 0 }

theorem resume_capture (s : State) :
    (resume s).capture = if s.capture.resumes then s.capture.resumed (stampNow s) else s.capture := by
  unfold resume Capture.resumed
  split
  · dsimp only
    split <;> rfl
  · rfl

theorem settleFull_capture (s : State) :
    (settleFull s).capture = if s.capture.fills then { s.capture with state := .full } else s.capture := by
  unfold settleFull
  split <;> simp

namespace CaptureKept

variable {o : Prop} {c : Capture} {s t : State}

theorem ring (h : CaptureKept o c) : RingKept o c :=
  ⟨h.ok.wcRange, h.ok.rcRange, h.ok.unread, h.ok.slots, h.ok.serial, h.rising⟩

theorem atPor (o : Prop) (m : Mode) : CaptureKept o (Capture.atPor m) where
  ok :=
    { wcRange := Nat.zero_le _, rcRange := Nat.zero_le _, unread := rfl, slots := fun e he => by cases he
      serial := (by decide : (1 : Count) ≠ 0), idle := fun _ => rfl, full := nofun, armedFill := nofun
      armedMissed := nofun, limitRange := Nat.zero_le _, limitOpen := fun h => by rcases h with h | h <;> cases h }
  rising := fun _ => ⟨Cells.wf_nil, ⟨fun _ _ => rfl, fun i r d hr => by cases hr⟩⟩

/-- What filling makes of an ARMED capture that is in order but for the room it has left (R118). -/
theorem settled (h : RingKept o s.capture) (hs : s.capture.state = .armed) (hm : s.capture.missed = 0)
    (hl : s.capture.limit ≤ 65535) (hopen : s.capture.limit = 0 ∨ s.capture.limitCount < s.capture.limit) :
    CaptureKept o (settleFull s).capture := by
  have hle := h.unread_le
  rw [settleFull_capture]
  split
  · next hfills =>
    obtain ⟨⟨-, hmode⟩, hu⟩ : (s.capture.state = .armed ∧ s.capture.mode = .fill) ∧ s.capture.unread = 1022 := by
      simpa [Capture.fills, Config.unreadMax] using hfills
    exact ⟨⟨h.wcRange, h.rcRange, h.unread, h.slots, h.serial, nofun,
      fun _ => ⟨hmode, by simp only; omega⟩, nofun, nofun, hl, fun _ => hopen⟩,
      (h.of_same (c' := { s.capture with state := .full }) rfl rfl rfl rfl rfl).rising⟩
  · next hfills =>
    refine h.armed_ok hs (fun hmode => ?_) hm hl hopen
    have : s.capture.unread ≠ 1022 := by simpa [Capture.fills, hs, hmode, Config.unreadMax] using hfills
    omega

/-- The capture STOPPED for a reason (R115). -/
theorem stopWith {reason : StopReason} (h : RingKept o s.capture) (hl : s.capture.limit ≤ 65535) :
    CaptureKept o (Machine.stopWith reason s).capture :=
  (h.of_same (c' := { s.capture with state := .stopped, stopReason := reason }) rfl rfl rfl rfl rfl).stopped_ok
    rfl hl

/-- A record request at the Capture Unit (R119, R121). -/
theorem takeRequest (h : CaptureKept o s.capture) (q : RecordRequest) :
    CaptureKept o (Machine.takeRequest q s).capture := by
  have wrote := h.ring.write q.stamp q.body
  obtain ⟨hstate, hmode, hlimit, -, hmissed⟩ := s.capture.write_state q.stamp q.body
  have counted : RingKept o (s.capture.writeFrame q) := wrote.of_same rfl rfl rfl rfl rfl
  unfold Machine.takeRequest
  split
  · next harmed =>
    simp only
    have range := h.ok.limitRange
    split
    · next hreached =>
      obtain ⟨-, -, hlast, -⟩ := Capture.write_state (s.capture.writeFrame q) (stampNow s) (.stop .limit)
      exact stopWith (counted.write _ _) (hlast.trans hlimit ▸ range)
    · next hshort =>
      refine settled counted (hstate.trans harmed) (hmissed.trans (h.ok.armedMissed harmed))
        (hlimit ▸ range) ?_
      have hopen := h.ok.limitOpen (.inl harmed)
      have hshort : s.capture.limit = 0 ∨ s.capture.limitCount + 1 ≠ s.capture.limit := by
        simp only [Capture.limitReached, Bool.and_eq_true, decide_eq_true_eq, beq_iff_eq, not_and] at hshort
        omega
      simp only [State.withCapture_capture, Capture.writeFrame, hlimit]
      omega
  · next hfull =>
    exact ⟨⟨h.ok.wcRange, h.ok.rcRange, h.ok.unread, h.ok.slots, h.ok.serial, fun hi => by simp [hfull] at hi,
      h.ok.full, fun ha => by simp [hfull] at ha, fun ha => by simp [hfull] at ha, h.ok.limitRange,
      h.ok.limitOpen⟩, fun ho => ⟨(h.rising ho).1, (h.rising ho).2.of_same rfl rfl rfl⟩⟩
  · exact h
  · exact h

/-- The accepted CAPTURE-ARM (R122). -/
theorem armCapture (h : CaptureKept o s.capture) {limit : Nat} (hl : limit ≤ 65535) :
    CaptureKept o (Machine.armCapture limit s).capture := by
  rw [armCapture_eq]
  have armed : RingKept o (s.capture.arming limit) := h.ring.of_same rfl rfl rfl rfl rfl
  obtain ⟨hstate, -, hlimit, hcount, hmissed⟩ :=
    (s.capture.arming limit).write_state (stampNow s) (.start s.capture.mode limit)
  refine settled (armed.write _ _) hstate hmissed (hlimit ▸ hl) ?_
  simp only [sendNotice, State.withTrigger_capture, State.withCapture_capture, hlimit, hcount]
  simp only [Capture.arming]
  omega

theorem autostart (h : CaptureKept o s.capture) : CaptureKept o (Machine.autostart s).capture := by
  unfold Machine.autostart autoArm
  split
  · split
    · exact h.armCapture (Nat.zero_le _)
    · exact h
  · exact h

theorem stopCapture (h : CaptureKept o s.capture) (reason : StopReason) :
    CaptureKept o (Machine.stopCapture reason s).capture := by
  unfold Machine.stopCapture
  split
  · obtain ⟨-, -, hlimit, -⟩ := s.capture.write_state (stampNow s) (.stop reason)
    exact stopWith (h.ring.write _ _) (hlimit ▸ h.ok.limitRange)
  · exact stopWith h.ring h.ok.limitRange
  · exact h
  · exact h

/-- A FULL capture with 1006 unread or fewer, ARMED again, is in order (R120). -/
theorem resumed (h : RingKept o c) (hu : c.unread ≤ 1006) (hl : c.limit ≤ 65535)
    (hopen : c.limit = 0 ∨ c.limitCount < c.limit) (st : Stamp) : CaptureKept o (c.resumed st) := by
  have armed : RingKept o { c with state := .armed } := h.of_same rfl rfl rfl rfl rfl
  unfold Capture.resumed
  split
  · next hnone => exact armed.armed_ok rfl (fun _ => Nat.le_trans hu (by omega)) hnone hl hopen
  · obtain ⟨hstate, -, hlimit, hcount, -⟩ := Capture.write_state { c with state := .armed } st (.gap c.missed)
    have hone := Capture.write_unread_le { c with state := .armed } st (.gap c.missed)
    have wrote := armed.write st (.gap c.missed)
    generalize Capture.write { c with state := .armed } st (.gap c.missed) = x at *
    simp only at hone hlimit hcount hstate
    exact (wrote.of_same (c' := { x with missed := 0 }) rfl rfl rfl rfl rfl).armed_ok hstate
      (fun _ => by simp only; omega) rfl (hlimit ▸ hl) (hlimit ▸ hcount ▸ hopen)

/-- The read cursor and the unread count anew, and the resume that may follow (R120, R137, R142): not past an
IDLE capture's cursors, and to no more unread slots in an ARMED one. -/
theorem moved {rc u : Nat} (h : CaptureKept o s.capture) (ring : RingKept o { s.capture with rc := rc, unread := u })
    (hidle : s.capture.state = .idle → rc = s.capture.rc ∧ u = s.capture.unread)
    (harmed : s.capture.state = .armed → u ≤ s.capture.unread) :
    CaptureKept o (resume (s.withCapture { s.capture with rc := rc, unread := u })).capture := by
  rw [resume_capture]
  split
  · next hresumes =>
    obtain ⟨hfull, hu⟩ := (Capture.resumes_iff _).mp hresumes
    exact resumed ring hu h.ok.limitRange (h.ok.limitOpen (.inr hfull)) _
  · next hstays =>
    refine ⟨⟨ring.wcRange, ring.rcRange, ring.unread, ring.slots, ring.serial, fun hi => ?_, fun hf => ⟨?_, ?_⟩,
      fun ha hm => Nat.le_trans (harmed ha) (h.ok.armedFill ha hm), h.ok.armedMissed, h.ok.limitRange,
      h.ok.limitOpen⟩, ring.rising⟩
    · obtain ⟨rfl, rfl⟩ := hidle hi
      exact h.ok.idle hi
    · exact (h.ok.full hf).1
    · have hfull : s.capture.state = .full := hf
      exact Nat.not_le.mp fun hu => hstays ((Capture.resumes_iff _).mpr ⟨hfull, hu⟩)

/-- `k` cursor reads and the resume (R137, R140). -/
theorem readOut (h : CaptureKept o s.capture) {k : Nat} (hk : k ≤ s.capture.unread) :
    CaptureKept o (Machine.readOut k s).capture := by
  have ring := h.ring.advanceBy hk
  have hle := s.capture.advanceBy_unread k
  unfold Machine.readOut
  rw [s.capture.advanceBy_eq k] at ring ⊢
  refine h.moved ring (fun hi => ?_) fun _ => by omega
  have hnone : s.capture.unread = 0 := by rw [h.ok.idle hi]; rfl
  obtain rfl : k = 0 := by omega
  exact ⟨rfl, rfl⟩

/-- The read cursor set to a slot from which the write cursor is reached (R142, R143). -/
theorem setCursor (h : CaptureKept o s.capture) {slot u : Nat} (hi : slot ≤ 1023)
    (hu : stepsTo slot s.capture.wc = some u) : CaptureKept o (Machine.setCursor slot u s).capture := by
  have ring := h.ring.cursorSet hi hu
  unfold Machine.setCursor
  dsimp only
  split
  · next ha =>
    exact settled (s := s.withCapture { s.capture with rc := slot, unread := u }) ring ha (h.ok.armedMissed ha)
      h.ok.limitRange (h.ok.limitOpen (.inl ha))
  · next hna =>
    refine h.moved ring (fun hidle => ?_) fun ha => absurd ha hna
    rw [h.ok.idle hidle] at hu ⊢
    unfold stepsTo at hu
    simp only [Capture.atPor] at hu ⊢
    grind

theorem refuse (h : CaptureKept o s.capture) (r : Request) (c : ResultCode) :
    CaptureKept o (Machine.refuse r c s).1.capture := h

/-- A request of the Capture Unit, carried out there. -/
theorem carry {k : ReqKind} {carry : Dispatch → State → State × List (List Byte)}
    (hc : Carries .capture k carry) (h : CaptureKept o s.capture) (d : Dispatch) :
    CaptureKept o (carry d s).1.capture := by
  cases hc with
  | captureArm =>
    unfold carryArm
    split
    · exact h
    · exact h.armCapture (Request.limit_le _)
  | captureStop =>
    unfold carryStop
    split
    · exact h.stopCapture _
    · exact h
  | captureClear =>
    unfold carryClear
    split
    · exact h
    · exact atPor o _
  | captureMode =>
    unfold carryMode
    split
    · exact h
    · next m _ =>
      split
      · exact h
      · next hopen =>
        simp only [not_or] at hopen
        exact ⟨⟨h.ok.wcRange, h.ok.rcRange, h.ok.unread, h.ok.slots, h.ok.serial,
          fun hi => congrArg (fun c : Capture => { c with mode := m }) (h.ok.idle hi), fun hf => absurd hf hopen.2,
          fun ha => absurd ha hopen.1, fun ha => absurd ha hopen.1, h.ok.limitRange, h.ok.limitOpen⟩,
          fun ho => ⟨(h.rising ho).1, (h.rising ho).2.of_same rfl rfl rfl⟩⟩
  | captureMark =>
    unfold carryMark
    split
    · exact h
    · exact h
    · exact h
    · next ha =>
      let b := RecordBody.mark d.request.source (d.request.payload.drop 1)
      obtain ⟨hstate, -, hlimit, hcount, hmissed⟩ := s.capture.write_state (stampNow s) b
      exact settled (s := s.withCapture (s.capture.write (stampNow s) b)) (h.ring.write _ _) (hstate.trans ha)
        (hmissed.trans (h.ok.armedMissed ha)) (hlimit ▸ h.ok.limitRange)
        (by simpa only [State.withCapture_capture, hlimit, hcount] using h.ok.limitOpen (.inl ha))
  | readNext =>
    unfold carryReadNext
    split
    · exact h
    · exact h.readOut (by omega)
  | readBlock =>
    unfold carryReadBlock
    dsimp only
    split
    · exact h
    · split
      · exact h
      · exact h.readOut (by unfold blockSize; omega)
  | readSlot =>
    unfold carryReadSlot
    dsimp only
    split
    · exact h
    · split <;> exact h
  | setReadCursor =>
    unfold carrySetCursor
    dsimp only
    split
    · exact h
    · next hi =>
      split
      · exact h
      · next u hu => exact h.setCursor (Nat.not_lt.mp hi) hu

/-! ### Every step -/

theorem course (ht : Course s t) : CaptureKept o s.capture → CaptureKept o t.capture := by
  have same : ∀ {u v : State}, v.capture = u.capture → CaptureKept o u.capture → CaptureKept o v.capture :=
    fun hv h => hv ▸ h
  induction ht with
  | refl => exact id
  | trans _ _ ih ih' => exact ih' ∘ ih
  | elapse | time | strap | classifier | windows | trigger | agent => exact id
  | port => exact same (by simp)
  | intake s p => exact same ((AgentSide.refl (s := s)).intake p).blocks.capture
  | alertSend s => exact same (AgentSide.alertSend (s := s)).blocks.capture
  | @part b ofKind f hf s =>
    refine same ?_
    rcases partEvent_cases b ofKind f s with h' | ⟨d, id, g, -, -, -, -, h'⟩ <;> rw [h']
    rw [((AgentSide.refl).deliverPart g b _).blocks.capture]
    cases hf with
    | status | counters => rfl
    | clear b => cases b <;> simp [clearPart]
  | @owner b k carry hc s =>
    rcases ownerEvent_cases b k carry s with h' | ⟨d, -, -, -, h'⟩ <;> rw [h']
    · exact id
    · rw [answer_capture]
      cases b with
      | resolver =>
        obtain ⟨x, -, hx⟩ := hc.resolverSide d (s.withAgent (s.agent.takeNext .resolver))
        exact same (by rw [hx]; rfl)
      | store => exact same (hc.storeSide d _).frame.capture
      | capture => exact fun h => CaptureKept.carry (s := s.withAgent (s.agent.takeNext .capture)) hc h d
      | _ => cases hc
  | store hf s =>
    rcases hf.storeSide s with hx | ⟨n, hx⟩
    · exact same hx.frame.capture
    · exact same (v := _) (u := s) hx.frame.capture
  | takeRequest q s => exact fun h => h.takeRequest q
  | stopCapture r s => exact fun h => h.stopCapture r
  | autostart s => exact autostart

end CaptureKept

/-- Settles O59: by the course of each event; a write, a read and a change of the capture state each keep the
cursors and the serials, and the state that is left has the counts its rules allow. -/
theorem stepsKeepCapture : Obligations.StepsKeepCapture := by
  intro s t hs hstep
  have keeps : ∀ o : Prop, CaptureKept o s.capture → CaptureKept o t.capture := fun o kept => by
    refine step_keeps (P := fun s => CaptureKept o s.capture) (fun s x h => h) (fun n s h => h)
      (fun g a n s _ => ?por) (fun s _ => ?loss) (fun p l s h => ?line)
      (fun f s hf h => CaptureKept.course (Course.event hf s) h) kept hstep
    case por => exact CaptureKept.autostart (CaptureKept.atPor o _)
    case loss => exact CaptureKept.atPor o _
    case line =>
      unfold lineChange
      split <;> simpa using h
  exact ⟨(keeps False ⟨hs, False.elim⟩).ok, fun hw hserials =>
    ((keeps True ⟨hs, fun _ => ⟨hw, hserials⟩⟩).rising trivial).2⟩

end Sys2Proof.Machine
end


section
/-! Proofs about the Active Profile (10.1, 11.6): the fields of page 0 and their ranges, the profile a load takes
from it, and that every profile loaded is in range. -/

namespace Sys2Proof.Machine

/-! ### The fields of page 0 -/

/-- The field of an index of R175 is in range: every clause but the one of the index is void. -/
def FieldInRange (page : Nat → Word) (i : Nat) : Prop :=
  (i = 1 → 1 ≤ (page 1).toNat ∧ (page 1).toNat ≤ 126) ∧
  (i = 2 → (page 2).toNat ≤ 4 ∧ (∀ m ∈ profileManagers page, m.toNat ≤ 126) ∧ (profileManagers page).Nodup) ∧
  (i = 3 → page 7 = 0xFFFF ∨ ((page 7).toNat ≤ 126 ∧ page 7 ≠ page 1)) ∧
  (i = 4 → page 8 = 0xFFFF ∨ (page 8).toNat ≤ 126) ∧
  (i = 5 → (page 9).toNat ≤ 1) ∧ (i = 6 → (page 10).toNat ≤ 1) ∧
  (i = 7 → 1 ≤ (page 11).toNat ∧ (page 11).toNat ≤ 16) ∧
  (i = 8 → 1 ≤ (page 12).toNat ∧ (page 12).toNat ≤ 60) ∧ (i = 9 → (page 13).toNat ≤ 1)

theorem profileFieldOk_iff (page : Nat → Word) (i : Nat) :
    profileFieldOk page i = true ↔ FieldInRange page i := by
  unfold profileFieldOk FieldInRange
  split <;> simp_all [absentWord, and_assoc]

/-- An index beyond those of R175 has no field to be out of range. -/
theorem fieldInRange_of_beyond (page : Nat → Word) {i : Nat} (h : i = 0 ∨ 9 < i) : FieldInRange page i := by
  unfold FieldInRange
  refine ⟨?_, ?_, ?_, ?_, ?_, ?_, ?_, ?_, ?_⟩ <;> omega

theorem profileFault_eq_none_iff (page : Nat → Word) :
    profileFault page = none ↔ ∀ i, FieldInRange page i := by
  simp only [profileFault, List.find?_eq_none, Bool.not_eq_true', Bool.not_eq_false, profileFieldOk_iff]
  refine ⟨fun h i => ?_, fun h i _ => h i⟩
  by_cases hi : i = 0 ∨ 9 < i
  · exact fieldInRange_of_beyond page hi
  · exact h i (by simp only [List.mem_cons, List.not_mem_nil, or_false]; omega)

/-- The index of a REJECTED profile is that of its lowest field out of range (R175). -/
theorem profileFault_eq_some {page : Nat → Word} {i : Nat} (hi : ¬ FieldInRange page i)
    (hlow : ∀ j, j < i → FieldInRange page j) : profileFault page = some i := by
  have hrange : 1 ≤ i ∧ i ≤ 9 := by
    by_contra hn
    exact hi (fieldInRange_of_beyond page (by omega))
  have bad : profileFieldOk page i = false := 
    Bool.eq_false_iff.mpr ((profileFieldOk_iff page i).not.mpr hi)
  have good : ∀ j, j < i → profileFieldOk page j = true := fun j hj => (profileFieldOk_iff page j).mpr (hlow j hj)
  unfold profileFault
  obtain ⟨h1, h9⟩ := hrange
  interval_cases i <;> simp_all

/-! ### The load -/

theorem loadFrom_unmarked {page : Nat → Word} (h : page 0 ≠ profileMarker) (strap : BitVec 2) :
    loadFrom page strap = (Profile.bare strap, .absent) := if_pos h

theorem loadFrom_rejected {page : Nat → Word} (h : page 0 = profileMarker) {i : Nat} (hi : profileFault page = some i)
    (strap : BitVec 2) : loadFrom page strap = (Profile.bare strap, .rejected i) := by
  unfold loadFrom
  rw [if_neg (not_not.mpr h), hi]

theorem loadFrom_loaded {page : Nat → Word} (h : page 0 = profileMarker) (hi : profileFault page = none)
    (strap : BitVec 2) : loadFrom page strap = (profileOf page, .loaded) := by
  unfold loadFrom
  rw [if_neg (not_not.mpr h), hi]

theorem Store.pageZero_valid {t : Store} (h : t.state 0 = .valid) : t.pageZero = t.word 0 := by
  funext i
  simp [Store.pageZero, Store.readWord, h]

theorem Store.pageZero_blank {t : Store} (h : t.state 0 ≠ .valid) (i : Nat) : t.pageZero i = 0 := by
  simp [Store.pageZero, Store.readWord, h]

/-- Settles O48: by what each outcome of the load asks of page 0; a field in range is one that the model's own
check passes. -/
theorem profileLoadedFromPageZero : Obligations.ProfileLoadedFromPageZero := by
  intro t strap w n bare managers node ok
  refine ⟨fun h => ?absent, fun hvalid hmark => ⟨fun i h1 h9 hi hlow => ?rejected, fun hall => ?loaded⟩⟩
  case absent =>
    refine loadFrom_unmarked ?_ strap
    by_cases hv : t.state 0 = .valid
    · rw [Store.pageZero_valid hv]
      exact h.resolve_left (not_not.mpr hv)
    · rw [Store.pageZero_blank hv]
      decide
  case rejected =>
    rw [Store.loadProfile, Store.pageZero_valid hvalid]
    exact loadFrom_rejected hmark (profileFault_eq_some hi hlow) strap
  case loaded =>
    obtain ⟨-, -, -, -, -, startRange, -⟩ := hall 6
    have hstart : n 10 ≤ 1 := startRange rfl
    rw [Store.loadProfile, Store.pageZero_valid hvalid,
      loadFrom_loaded hmark ((profileFault_eq_none_iff _).mpr hall) strap]
    have zero : ∀ x : Word, x = 0 ↔ x.toNat = 0 := fun x => by rw [← BitVec.toNat_inj]; rfl
    have hn : n 10 = (w 10).toNat := rfl
    have start : (w 10 != 0) = (n 10 == 1) := by
      rw [Bool.eq_iff_iff, bne_iff_ne, ne_eq, zero, beq_iff_eq]
      omega
    simp only [profileOf, profileNode, zero]
    rw [start]
    rfl

/-! ### Every profile loaded is in range -/

theorem ProfileOk.bare (strap : BitVec 2) : ProfileOk (Profile.bare strap) where
  address := by revert strap; decide
  managerCount := Nat.zero_le _
  managerRange := nofun
  managersOnce := .nil
  alertRange := nofun
  masterRange := nofun
  blockRange := (by decide : 1 ≤ 16 ∧ 16 ≤ 16)
  timeoutRange := (by decide : 1 ≤ 10 ∧ 10 ≤ 60)

theorem profileNode_eq_some {x : Word} {n : Byte} (h : profileNode x = some n) :
    x ≠ 0xFFFF ∧ n = x.setWidth 8 := by
  unfold profileNode at h
  split at h
  · cases h
  · next hx => exact ⟨hx, by simpa [eq_comm] using h⟩

/-- A word that is a node address loses nothing as a byte (R196). -/
theorem toNat_setWidth_node {x : Word} (h : x.toNat ≤ 126) : (x.setWidth 8 : Byte).toNat = x.toNat := by
  rw [BitVec.toNat_setWidth]
  omega

theorem ProfileOk.of_fields {page : Nat → Word} (h : ∀ i, FieldInRange page i) : ProfileOk (profileOf page) := by
  obtain ⟨address, -⟩ := h 1
  obtain ⟨-, managers, -⟩ := h 2
  obtain ⟨-, -, alertNode, -⟩ := h 3
  obtain ⟨-, -, -, timeMaster, -⟩ := h 4
  obtain ⟨-, -, -, -, -, -, blockLimit, -⟩ := h 7
  obtain ⟨-, -, -, -, -, -, -, timeout, -⟩ := h 8
  obtain ⟨hcount, hrange, honce⟩ := managers rfl
  have haddr := toNat_setWidth_node (address rfl).2
  refine ⟨?_, ?_, fun m hm => ?_, ?_, fun n hn => ?_, fun n hn => ?_, blockLimit rfl, timeout rfl⟩
  · exact haddr.symm ▸ address rfl
  · simpa [profileOf, profileManagers, wordsFrom] using hcount
  · obtain ⟨x, hx, rfl⟩ := List.mem_map.mp hm
    exact (toNat_setWidth_node (hrange x hx)).symm ▸ hrange x hx
  · refine List.Nodup.map_on (fun x hx y hy hxy => ?_) honce
    have := congrArg BitVec.toNat hxy
    rw [toNat_setWidth_node (hrange x hx), toNat_setWidth_node (hrange y hy)] at this
    exact BitVec.eq_of_toNat_eq this
  · obtain ⟨hpresent, rfl⟩ := profileNode_eq_some hn
    obtain ⟨hnode, hne⟩ := (alertNode rfl).resolve_left hpresent
    rw [toNat_setWidth_node hnode]
    refine ⟨hnode, fun heq => hne (BitVec.eq_of_toNat_eq ?_)⟩
    rw [← toNat_setWidth_node hnode, heq]
    exact haddr
  · obtain ⟨hpresent, rfl⟩ := profileNode_eq_some hn
    have hnode := (timeMaster rfl).resolve_left hpresent
    exact (toNat_setWidth_node hnode).symm ▸ hnode

theorem ProfileOk.loadProfile (t : Store) (strap : BitVec 2) : ProfileOk (t.loadProfile strap).1 := by
  unfold Store.loadProfile loadFrom
  split
  · exact .bare strap
  · split
    · exact .bare strap
    · next hnone => exact .of_fields ((profileFault_eq_none_iff _).mp hnone)

end Sys2Proof.Machine
end


section
/-! Proof that every step keeps the profile, the session, the Retry Cache and the alert protocol in order (10.1,
10.4, 10.5, 10.7): the cache under its operations, the Agent part by part, then the course of each event. -/

namespace Sys2Proof.Machine

/-! ### The Retry Cache -/

/-- A Retry Cache of at most four entries, one for each requester and each under a number of its own below the
next one (R181, R182). -/
structure CacheOk (c : List CacheEntry) (next : Nat) : Prop where
  room : c.length ≤ 4
  nodes : (c.map (·.node)).Nodup
  ids : (c.map (·.id)).Nodup
  old : ∀ e ∈ c, e.id < next

namespace CacheOk

variable {c : List CacheEntry} {next : Nat}

/-- An entry in front of some of the others, none of them for its requester, under a number of its own. -/
theorem cons {c' : List CacheEntry} (h : CacheOk c next) (e : CacheEntry) {next' : Nat} (hn : next ≤ next')
    (hs : c'.Sublist (c.filter fun x => x.node != e.node)) (hroom : c'.length ≤ 3) (hid : e.id < next')
    (hne : ∀ x ∈ c', x.id ≠ e.id) : CacheOk (e :: c') next' := by
  have sub := hs.trans List.filter_sublist
  refine ⟨Nat.succ_le_succ hroom, ?_, ?_, fun x hx => ?_⟩
  · refine List.nodup_cons.mpr ⟨fun hmem => ?_, h.nodes.sublist (sub.map _)⟩
    obtain ⟨x, hx, hnode⟩ := List.mem_map.mp hmem
    simpa [hnode] using (List.mem_filter.mp (hs.subset hx)).2
  · refine List.nodup_cons.mpr ⟨fun hmem => ?_, h.ids.sublist (sub.map _)⟩
    obtain ⟨x, hx, hxid⟩ := List.mem_map.mp hmem
    exact hne x hx hxid
  · rcases List.mem_cons.mp hx with rfl | hx
    · exact hid
    · exact Nat.lt_of_lt_of_le (h.old x (sub.subset hx)) hn

/-- A new request's entry under the next number (R182). -/
theorem take (h : CacheOk c next) (r : Request) : CacheOk (cacheTake r next c) (next + 1) := by
  have sub := List.take_sublist (Config.cacheRoom - 1) (c.filter fun x => x.node != r.source)
  refine h.cons _ (Nat.le_succ _) sub (List.length_take_le _ _) (Nat.lt_succ_self _) fun x hx => ?_
  exact Nat.ne_of_lt (h.old x (List.filter_sublist.subset (sub.subset hx)))

/-- An entry used, whatever frames it then holds, is the most recently used (R181, R182). -/
theorem use (h : CacheOk c next) {e x : CacheEntry} (hx : x ∈ c) (hn : e.node = x.node) (hi : e.id = x.id) :
    CacheOk (cacheUse e c) next := by
  have fewer : (c.filter fun y => y.node != e.node).length < c.length :=
    List.length_filter_lt_length_iff_exists.mpr ⟨x, hx, by simp [hn]⟩
  refine h.cons e (le_refl _) (.refl _) (by have := h.room; omega) (hi ▸ h.old x hx) fun y hy => ?_
  obtain ⟨hy, hne⟩ := List.mem_filter.mp hy
  intro heq
  have : y = x := List.inj_on_of_nodup_map h.ids hy hx (heq.trans hi)
  simp [this, hn] at hne

theorem fill (h : CacheOk c next) (id : Nat) (fs : List Frame) : CacheOk (cacheFill id fs c) next := by
  unfold cacheFill
  split
  · exact h
  · next e he => exact h.use (List.mem_of_find?_eq_some he) rfl rfl

theorem nil (next : Nat) : CacheOk [] next := ⟨Nat.zero_le _, .nil, .nil, nofun⟩

end CacheOk

theorem AgentOk.cacheOk {a : Agent} (h : AgentOk a) : CacheOk a.cache a.nextId :=
  ⟨h.cacheRoom, h.cacheNodes, h.cacheIds, h.cacheOld⟩

/-! ### The alert protocol -/

namespace AlertsOk

variable {a : Alerts}

/-- An alert protocol with nothing outstanding (R191). -/
theorem settled (ho : a.outstanding = 0) (ht : a.tries = 0) (hk : a.ackTimer = .none) (hr : a.retryDue = false) :
    AlertsOk a :=
  ⟨fun _ => ⟨ht, hk, hr⟩, fun h => absurd ho h, fun h => absurd ho h, fun h => by simp [hr] at h⟩

/-- The sets that are no part of the cycle do not touch its order. -/
theorem of_same {b : Alerts} (h : AlertsOk a) (ho : b.outstanding = a.outstanding) (ht : b.tries = a.tries)
    (hk : b.ackTimer = a.ackTimer) (hr : b.retryDue = a.retryDue) : AlertsOk b := by
  obtain ⟨none, tries, timer, retry⟩ := h
  rw [← ho, ← ht, ← hk, ← hr] at *
  exact ⟨none, tries, timer, retry⟩

/-- A send that is due leaves something outstanding, one try more, and the ack timer running (R190). -/
theorem sent (h : AlertsOk a) (hd : a.sendDue = true) : AlertsOk a.sent := by
  have outstanding : a.retryDue = true → a.outstanding ≠ 0 := fun hr ho => by simp [(h.none ho).2.2] at hr
  have some : a.sent.outstanding ≠ 0 := by
    unfold Alerts.sent
    simp only
    split
    · next hr => exact fun ho => outstanding hr (BitVec.or_eq_zero_iff.mp ho).1
    · next hr =>
      have hp : a.pending ≠ 0 ∧ a.outstanding = 0 := by simpa [Alerts.sendDue, hr] using hd
      exact hp.1
  have tries : 1 ≤ a.sent.tries ∧ a.sent.tries ≤ 3 := by
    unfold Alerts.sent
    simp only
    split
    · next hr => have := h.retry hr; omega
    · omega
  exact ⟨fun ho => absurd ho some, fun _ => tries, fun _ => ⟨nofun, nofun⟩, nofun⟩

/-- Time runs the ack timer down and neither starts nor ends it. -/
theorem run (h : AlertsOk a) (n : Nat) : AlertsOk { a with ackTimer := runTimer n a.ackTimer } := by
  have stands : runTimer n a.ackTimer = .none ↔ a.ackTimer = .none := Option.map_eq_none_iff
  exact ⟨fun ho => ⟨(h.none ho).1, stands.mpr (h.none ho).2.1, (h.none ho).2.2⟩, h.tries,
    fun ho => (h.timer ho).trans stands.symm, h.retry⟩

end AlertsOk

/-! ### The Agent, part by part -/

namespace AgentOk

variable {a : Agent}

theorem withCache (h : AgentOk a) {c : List CacheEntry} {next : Nat} (hc : CacheOk c next) :
    AgentOk { a with cache := c, nextId := next } :=
  { h with cacheRoom := hc.room, cacheNodes := hc.nodes, cacheIds := hc.ids, cacheOld := hc.old }

theorem withAlerts (h : AgentOk a) {x : Alerts} (hx : AlertsOk x)
    (hn : a.profile.alertNode = none → x.outstanding = 0 ∧ x.unreported = 0) : AgentOk { a with alerts := x } :=
  { h with alerts := hx, noNode := hn }

theorem withSession (h : AgentOk a) {x : Option Session} (hg : a.guard = false → x = none)
    (hx : ∀ y, x = some y → y.left ≤ a.profile.timeout * 25000000) : AgentOk { a with session := x } :=
  { h with guardLow := hg, sessionLeft := hx }

/-- Changes of what is under way: the requests dispatched singly stay at their owners, with a right length. -/
theorem withUnderWay (h : AgentOk a) {ds : List Dispatch} {gs : List Gather} {next : Nat}
    (hd : ∀ d ∈ ds, d.gather = none → d ∈ a.dispatched ∨
      ∃ k, d.request.kind = some k ∧ ownerOf k = some d.dest ∧ k.lengthRight d.request.payload = true)
    (hn : a.nextId ≤ next) : AgentOk { a with dispatched := ds, gathers := gs, nextId := next } :=
  { h with
    cacheOld := fun e he => Nat.lt_of_lt_of_le (h.cacheOld e he) hn
    dispatched := fun d hm hg => (hd d hm hg).elim (fun hold => h.dispatched d hold hg) id }

theorem withGathers (h : AgentOk a) (gs : List Gather) : AgentOk { a with gathers := gs } :=
  h.withUnderWay (fun _ hd _ => .inl hd) (le_refl _)

theorem takeNext (h : AgentOk a) (b : Block) : AgentOk (a.takeNext b) :=
  h.withUnderWay (fun _ hd _ => .inl (List.eraseP_sublist.subset hd)) (le_refl _)

theorem filled (h : AgentOk a) (id : Nat) (fs : List Frame) :
    AgentOk { a with cache := cacheFill id fs a.cache } := h.withCache (h.cacheOk.fill id fs)

theorem opened (h : AgentOk a) (hg : a.guard = true) (node : Byte) (flag : Bool) : AgentOk (a.opened node flag) :=
  h.withSession (fun hlow => by simp [hg] at hlow) fun y hy => by cases hy; exact le_refl _

theorem closed (h : AgentOk a) : AgentOk a.closed := h.withSession (fun _ => rfl) nofun

theorem renewed (h : AgentOk a) (node : Byte) : AgentOk (a.renewed node) := by
  unfold Agent.renewed
  split
  · next x hx =>
    split
    · exact h.withSession (fun hg => by simp [h.guardLow hg] at hx) fun y hy => by cases hy; exact le_refl _
    · exact h
  · exact h

theorem acked (h : AgentOk a) : AgentOk { a with alerts := a.alerts.acked } :=
  h.withAlerts (.settled rfl rfl rfl rfl) fun hn => ⟨rfl, (h.noNode hn).2⟩

theorem statusClears (h : AgentOk a) : AgentOk a.statusClears := by
  unfold Agent.statusClears
  split
  · next hn => exact h.withAlerts (h.alerts.of_same rfl rfl rfl rfl) fun _ => h.noNode hn
  · exact h.withAlerts (h.alerts.of_same rfl rfl rfl rfl) fun hn => ⟨(h.noNode hn).1, rfl⟩

theorem raised (h : AgentOk a) (c : AlertCond) : AgentOk (a.raised c) := (AgentMove.raised c a).ok h

/-- A profile loaded while no session is open and no alert is outstanding (R174, R193). -/
theorem load (h : AgentOk a) (t : Store) (strap : BitVec 2) (hs : a.session = none)
    (ha : a.alerts.outstanding = 0 ∧ a.alerts.unreported = 0) : AgentOk (a.load t strap) := by
  have loaded : AgentOk { a with profile := (t.loadProfile strap).1, profileState := (t.loadProfile strap).2,
                                 strapRead := strap } :=
    { h with
      profile := .loadProfile t strap
      sessionLeft := fun x hx => by simp [hs] at hx
      noNode := fun _ => ha }
  unfold Agent.load
  dsimp only
  split
  · exact loaded.raised _
  · exact loaded

theorem atPor (ps : ProfileState) (strap : BitVec 2) (g : Bool) : AgentOk (Agent.atPor (Profile.bare strap) ps strap g) where
  profile := .bare strap
  guardLow := fun _ => rfl
  sessionLeft := nofun
  cacheRoom := Nat.zero_le _
  cacheNodes := .nil
  cacheIds := .nil
  cacheOld := nofun
  alerts := .settled rfl rfl rfl rfl
  noNode := fun _ => ⟨rfl, rfl⟩
  dispatched := nofun

theorem restarted (h : AgentOk a) (t : Store) (strap : BitVec 2) : AgentOk (a.restarted t strap) := by
  have emptied : AgentOk { a with session := none, cache := [], alerts := a.alerts.restarted,
                                  restarts := a.restarts ++ [Restarting.all] } :=
    { (h.closed.withCache (.nil a.nextId)).withAlerts (x := a.alerts.restarted) (.settled rfl rfl rfl rfl)
        fun _ => ⟨rfl, rfl⟩ with }
  exact emptied.load t strap rfl ⟨rfl, rfl⟩

theorem elapsed (h : AgentOk a) (n : Nat) : AgentOk (elapseAgent n a) := by
  refine { h with guardLow := fun hg => ?_, sessionLeft := fun x hx => ?_, alerts := h.alerts.run n }
  · exact Option.map_eq_none_iff.mpr (h.guardLow hg)
  · obtain ⟨y, hy, rfl⟩ := Option.map_eq_some_iff.mp hx
    exact Nat.le_trans (Nat.sub_le _ _) (h.sessionLeft y hy)

end AgentOk

/-! ### Intake -/

namespace AgentOk

variable {s t : State}

theorem answer (h : AgentOk s.agent) (r : Request) (entry held : Nat) (ps : List (List Byte)) :
    AgentOk (Machine.answer r entry held ps s).agent := h.filled _ _

theorem dispatchTo (h : AgentOk s.agent) {k : ReqKind} {b : Block} {r : Request} (hk : r.kind = some k)
    (hb : ownerOf k = some b) (hl : k.lengthRight r.payload = true) (entry held : Nat) :
    AgentOk (Machine.dispatchTo b r entry held s).agent := by
  simp only [Machine.dispatchTo, hold, State.onPort_agent, State.withAgent_agent]
  refine h.withUnderWay (gs := s.agent.gathers) (fun d hd _ => ?_) (le_refl _)
  rcases List.mem_append.mp hd with hd | hd
  · exact .inl hd
  · cases List.mem_singleton.mp hd
    exact .inr ⟨k, hk, hb, hl⟩

theorem beginGather (h : AgentOk s.agent) (k : GatherKind) (r : Request) (entry held : Nat) (blocks : List Block) :
    AgentOk (Machine.beginGather k r entry held blocks s).agent := by
  simp only [Machine.beginGather, hold, State.onPort_agent, State.withAgent_agent]
  refine h.withUnderWay (fun d hd hg => ?_) (Nat.le_succ _)
  rcases List.mem_append.mp hd with hd | hd
  · exact .inl hd
  · obtain ⟨b, -, rfl⟩ := List.mem_map.mp hd
    cases hg

theorem carryOut (h : AgentOk s.agent) {k : ReqKind} {r : Request} (hk : r.kind = some k)
    (hl : k.lengthRight r.payload = true) (entry : Nat) : AgentOk (Machine.carryOut k r entry s).agent := by
  have owner : ∀ b, ownerOf k = some b → ∀ held, AgentOk (Machine.dispatchTo b r entry held s).agent :=
    fun b hb held => h.dispatchTo hk hb hl entry held
  cases k with
  | identify => exact h
  | status =>
    exact beginGather (s := drew 2 (s.withAgent s.agent.statusClears)) h.statusClears _ _ _ _ _
  | counters =>
    simp only [Machine.carryOut, carryCounters]
    split
    · exact h.answer _ _ _ _
    · exact h.beginGather _ _ _ _ _
  | countersClear => exact h.beginGather _ _ _ _ _
  | restart =>
    simp only [Machine.carryOut, carryRestart]
    split
    · exact h.answer _ _ _ _
    · simpa [acceptRestart] using h.restarted _ _
  | openSession =>
    simp only [Machine.carryOut, carryOpenSession]
    split
    · exact h.answer _ _ _ _
    · next hnone =>
      have hg : s.agent.guard = true := by
        by_contra hg
        have hlow : s.agent.guard = false := by simpa using hg
        simp [Agent.openRefusal, hlow] at hnone
      exact answer (s := s.withAgent (s.agent.opened _ _)) (h.opened hg _ _) _ _ _ _
  | closeSession => exact answer (s := s.withAgent s.agent.closed) h.closed _ _ _ _
  | alertAck =>
    simp only [Machine.carryOut, carryAlertAck]
    split
    · exact answer (s := s.withAgent { s.agent with alerts := s.agent.alerts.acked }) h.acked _ _ _ _
    · exact h.answer _ _ _ _
  | _ => exact owner _ rfl _

theorem repeatRequest (h : AgentOk s.agent) {e : CacheEntry} (he : e ∈ s.agent.cache) (r : Request) :
    AgentOk (Machine.repeatRequest e r s).agent := by
  have used : AgentOk { s.agent with cache := cacheUse e s.agent.cache } := h.withCache (h.cacheOk.use he rfl rfl)
  unfold Machine.repeatRequest
  split
  · simpa [dropRequest] using used
  · split
    · simpa using used
    · simpa [dropRequest] using used

theorem repeated_mem {r : Request} {a : Agent} {e : CacheEntry} (h : a.repeated r = some e) : e ∈ a.cache := by
  unfold Agent.repeated at h
  split at h
  · next x hx =>
    split at h
    · cases h
      exact List.mem_of_find?_eq_some hx
    · cases h
  · cases h

theorem intakeRequest (h : AgentOk s.agent) (r : Request) : AgentOk (Machine.intakeRequest r s).agent := by
  have uncached : ∀ payload, AgentOk (replyUncached r payload s).agent := fun payload => by
    simpa [replyUncached] using h
  unfold Machine.intakeRequest
  split
  · simpa [dropRequest] using h
  split
  · exact uncached _
  next k hk =>
  split
  · unfold carryIdentify
    split <;> exact uncached _
  unfold intakeKnown
  split
  · exact uncached _
  split
  · next e he => exact h.repeatRequest (repeated_mem he) r
  have made : AgentOk (makeEntry r s).agent := h.withCache (h.cacheOk.take r)
  unfold afterEntry
  split
  · exact made.answer _ _ _ _
  next hl =>
  split
  · exact made.answer _ _ _ _
  · exact made.carryOut hk (by simpa using hl) _

theorem intake (h : AgentOk s.agent) (p : Port) : AgentOk (Machine.intake p s).agent := by
  unfold Machine.intake
  split
  · exact h
  · next r _ =>
    simp only [State.onPort_agent]
    exact intakeRequest (by simpa using h.renewed r.source) _

theorem alertSend (h : AgentOk s.agent) : AgentOk (Machine.alertSend s).agent := by
  unfold Machine.alertSend
  split
  · exact h
  · next node hnode =>
    dsimp only
    split
    · next hdue => exact h.withAlerts (h.alerts.sent hdue.1) fun hn => by simp [hnode] at hn
    · exact h

/-! ### Every step -/

theorem course (ht : Course s t) : AgentOk s.agent → AgentOk t.agent := by
  induction ht with
  | refl => exact id
  | trans _ _ ih ih' => exact ih' ∘ ih
  | elapse n s => exact fun h => h.elapsed n
  | time | strap | classifier | windows | trigger => exact id
  | port => exact fun h => by simpa using h
  | agent s a ha => exact ha.ok
  | intake s p => exact fun h => h.intake p
  | alertSend s => exact alertSend
  | @part b ofKind f hf s =>
    intro h
    rcases partEvent_cases b ofKind f s with h' | ⟨d, id, g, -, -, -, -, h'⟩ <;> rw [h']
    · exact h
    · have taken : AgentOk (f g.kind (s.withAgent (s.agent.takeNext b))).1.agent := by
        rw [(ReplyRoomOk.part_frame hf _ _).1]
        exact h.takeNext b
      by_cases hlast : g.waiting.erase b = []
      · rw [deliverPart_last hlast]
        exact answer (s := (f g.kind (s.withAgent (s.agent.takeNext b))).1.withAgent _)
          (taken.withGathers _) _ _ _ _
      · rw [deliverPart_more hlast]
        exact taken.withGathers _
  | @owner b k carry hc s =>
    intro h
    rcases ownerEvent_cases b k carry s with h' | ⟨d, -, -, -, h'⟩ <;> rw [h']
    · exact h
    · exact answer ((ReplyRoomOk.carry_agent hc d _).ok (h.takeNext b)) _ _ _ _
  | store hf s =>
    intro h
    rcases hf.storeSide s with hx | ⟨n, hx⟩
    · exact hx.frame.agent.ok h
    · exact hx.frame.agent.ok (h.elapsed n)
  | takeRequest q s => exact (CaptureSide.refl.takeRequest (s := s) q).frame.agent.ok
  | stopCapture r s => exact (CaptureSide.refl.stopCapture (s := s) r).frame.agent.ok
  | autostart s => exact (CaptureSide.refl (s := s)).autostart.frame.agent.ok

end AgentOk

/-- Settles O60: by the course of each event, the Agent part by part. -/
theorem stepsKeepAgent : Obligations.StepsKeepAgent := by
  intro s t hs hstep
  refine step_keeps (P := fun s => AgentOk s.agent) (fun s x h => h) (fun n s h => h.elapsed n)
    (fun g a n s _ => ?por) (fun s _ => ?loss) (fun p l s h => ?line)
    (fun f s hf h => AgentOk.course (Course.event hf s) h) hs hstep
  case por =>
    have started : AgentOk (startUp g a n s).agent := (AgentOk.atPor .absent a g).load _ a rfl ⟨rfl, rfl⟩
    exact (CaptureSide.refl (s := startUp g a n s)).autostart.frame.agent.ok started
  case loss => exact AgentOk.atPor .absent 0 false
  case line =>
    unfold lineChange
    split <;> simpa using h

end Sys2Proof.Machine
end


section
/-! Proofs about every command and every state: a step takes the command at the front of the queue, every command
ends, and the state right after reset is legal. -/

namespace Sys2Proof.Machine

/-- Settles O52: a step is defined by the front of the queue. -/
theorem stepRunsFrontCommand : Obligations.StepRunsFrontCommand := by
  intro s rest
  refine ⟨fun c => rfl, fun hempty => ?_⟩
  have idle : step s = .next (idleStep s) := by rw [step, hempty]
  exact ⟨fun hp => by rw [idle, idleStep, State.ifPowered_on hp]; rfl,
    fun hp => by rw [idle, idleStep, State.ifPowered_off hp]⟩

/-! ### What every event leaves alone -/

/-- The queue of waiting commands and the power as they were, and no free value taken back. -/
structure QueueKept (s t : State) : Prop where
  pending : t.pending = s.pending
  powered : t.powered = s.powered
  draws : s.draws ≤ t.draws

namespace QueueKept

variable {s t u : State}

theorem of_same (hq : t.pending = s.pending) (hp : t.powered = s.powered) (hd : t.draws = s.draws) :
    QueueKept s t := ⟨hq, hp, Nat.le_of_eq hd.symm⟩

theorem trans (h : QueueKept s t) (h' : QueueKept t u) : QueueKept s u :=
  ⟨h'.pending.trans h.pending, h'.powered.trans h.powered, Nat.le_trans h.draws h'.draws⟩

theorem agentSide (h : AgentSide s t) : QueueKept s t := ⟨h.blocks.pending, h.blocks.powered, h.draws⟩

theorem captureSide (h : CaptureSide s t) : QueueKept s t :=
  of_same h.frame.pending h.frame.powered h.frame.draws

theorem storeSide (h : StoreSide s t) : QueueKept s t := ⟨h.frame.pending, h.frame.powered, h.frame.draws⟩

theorem part {b : Block} {ofKind : GatherKind → Bool} {f : GatherKind → State → State × List Byte}
    (hf : PartOf b ofKind f) (k : GatherKind) (s : State) : QueueKept s (f k s).1 := by
  cases hf with
  | status | counters => exact of_same rfl rfl rfl
  | clear b => cases b <;> refine of_same ?_ ?_ ?_ <;> simp [clearPart]

theorem carry {b : Block} {k : ReqKind} {carry : Dispatch → State → State × List (List Byte)}
    (hc : Carries b k carry) (d : Dispatch) (s : State) : QueueKept s (carry d s).1 := by
  have resolver : Carries .resolver k carry → QueueKept s (carry d s).1 := fun h => by
    obtain ⟨x, -, hx⟩ := h.resolverSide d s
    rw [hx]
    exact of_same rfl rfl rfl
  cases b with
  | resolver => exact resolver hc
  | store => exact storeSide (hc.storeSide d s)
  | capture => exact captureSide (hc.captureSide d s)
  | _ => cases hc

theorem course (ht : Course s t) : QueueKept s t := by
  induction ht with
  | refl | elapse | time | strap | classifier | windows | trigger | agent => exact of_same rfl rfl rfl
  | trans _ _ ih ih' => exact ih.trans ih'
  | port => refine of_same ?_ ?_ ?_ <;> simp
  | intake s p => exact agentSide (AgentSide.refl.intake p)
  | alertSend s => exact agentSide AgentSide.alertSend
  | @part b ofKind f hf s =>
    rcases partEvent_cases b ofKind f s with h' | ⟨d, id, g, -, -, -, -, h'⟩ <;> rw [h']
    · exact of_same rfl rfl rfl
    · have taken : QueueKept s (s.withAgent (s.agent.takeNext b)) := of_same rfl rfl rfl
      exact (taken.trans (part hf _ _)).trans (agentSide (AgentSide.refl.deliverPart g b _))
  | @owner b k carry hc s =>
    rcases ownerEvent_cases b k carry s with h' | ⟨d, -, -, -, h'⟩ <;> rw [h']
    · exact of_same rfl rfl rfl
    · have taken : QueueKept s (s.withAgent (s.agent.takeNext b)) := of_same rfl rfl rfl
      exact (taken.trans (QueueKept.carry hc d _)).trans (agentSide (AgentSide.refl.answer _ _ _ _))
  | store hf s =>
    rcases hf.storeSide s with hx | ⟨n, hx⟩
    · exact storeSide hx
    · exact (of_same rfl rfl rfl : QueueKept s (elapse n s)).trans (storeSide hx)
  | takeRequest q s => exact captureSide (CaptureSide.refl.takeRequest q)
  | stopCapture r s => exact captureSide (CaptureSide.refl.stopCapture r)
  | autostart s => exact captureSide CaptureSide.refl.autostart

theorem lineChange (p : Port) (l : LineCond) (s : State) : QueueKept s (Machine.lineChange p l s) := by
  unfold Machine.lineChange
  split <;> refine of_same ?_ ?_ ?_ <;> simp

end QueueKept

/-- Settles O53: by the course of each event; POR, the loss of power and the changes of a line apart, a command
is an event of a powered bridge. -/
theorem commandsEndAndKeepTheQueue : Obligations.CommandsEndAndKeepTheQueue := by
  intro c s
  by_cases hc : Instr.anyPower c = false
  · have hpor : ∀ g a n, c ≠ .por g a n := fun g a n h => by subst h; cases hc
    have hloss : c ≠ .powerLoss := fun h => by subst h; cases hc
    obtain ⟨f, hf, hx⟩ := exec_event c hc
    have kept : QueueKept s (s.ifPowered f) :=
      State.ifPowered_keeps (P := QueueKept s) (.of_same rfl rfl rfl) (.course (Course.event hf s))
    exact ⟨_, hx s, kept.pending, kept.draws, fun _ _ => kept.powered, fun ⟨g, a, n, h⟩ => absurd h (hpor g a n),
      fun h => absurd h hloss, fun hoff _ _ _ => State.ifPowered_off hoff f⟩
  · cases c with
    | por g a n =>
      have kept : QueueKept (startUp g a n s) (autostart (startUp g a n s)) := .captureSide CaptureSide.refl.autostart
      exact ⟨_, rfl, kept.pending, kept.draws, fun h => absurd rfl (h g a n), fun _ => kept.powered, nofun,
        fun _ h => absurd rfl (h g a n)⟩
    | powerLoss =>
      exact ⟨_, rfl, rfl, le_refl _, fun _ h => absurd rfl h, nofun, fun _ => rfl, fun _ _ h => absurd rfl h⟩
    | lineConditionChange p l =>
      have kept := QueueKept.lineChange p l s
      exact ⟨_, rfl, kept.pending, kept.draws, fun _ _ => kept.powered, nofun, nofun,
        fun _ _ _ h => absurd rfl (h p l)⟩
    | _ => exact absurd rfl hc

/-! ### The reset state -/

/-- Settles O54: nothing is queued, held, in flight or recorded right after reset. -/
theorem resetStateIsLegal : Obligations.ResetStateIsLegal where
  tables := by constructor <;> exact Cells.wf_nil
  egress p := by cases p <;> exact EgressOk.atPor .silence (PortState.atPor .silence).measure
  replyRoom := .of_fresh rfl rfl fun p => by cases p <;> exact ⟨rfl, rfl⟩
  store := .of_ready rfl fun _ => rfl
  trigger := Trigger.atPor_ok
  capture := (CaptureKept.atPor False .wrap).ok
  serials := ((CaptureKept.atPor True .wrap).rising trivial).2
  agent := AgentOk.atPor .absent 0 false

end Sys2Proof.Machine
end


section
/-! Proofs about the receivers, the link measurements and Link Time (chapter 1): the bytes of a frame and the tests
of a run, then each command at a port. -/

namespace Sys2Proof.Machine

/-! ### The bytes of a frame -/

theorem byteOf_toNat {n : Nat} (h : n < 256) : (byteOf n).toNat = n := by
  simp only [byteOf, BitVec.toNat_ofNat]
  omega

theorem byteOf_byte (b : Byte) : byteOf b.toNat = b := by
  simp [byteOf]

theorem FrameKind.ofCode_eq_some_iff (c : Byte) (k : FrameKind) : FrameKind.ofCode c = some k ↔ c = k.code := by
  cases k <;> revert c <;> decide

theorem FrameKind.ofCode_eq_none_iff (c : Byte) : FrameKind.ofCode c = none ↔ c.toNat = 0 ∨ 5 < c.toNat := by
  revert c
  decide

theorem wordBytes_eq (w : Word) : wordBytes w = [byteOf (w.toNat / 256), byteOf w.toNat] := by
  simp [wordBytes, bytesOf, Nat.shiftRight_eq_div_pow]

theorem numberOf_pair (a b : Byte) : numberOf [a, b] = a.toNat * 256 + b.toNat := by
  simp [numberOf]

theorem numberOf_wordBytes (w : Word) : BitVec.ofNat 16 (numberOf (wordBytes w)) = w := by
  have hw := w.isLt
  apply BitVec.eq_of_toNat_eq
  rw [wordBytes_eq, numberOf_pair, byteOf_toNat (by omega)]
  simp only [byteOf, BitVec.toNat_ofNat]
  omega

theorem wordBytes_numberOf (a b : Byte) : wordBytes (BitVec.ofNat 16 (numberOf [a, b])) = [a, b] := by
  have ha := a.isLt
  have hb := b.isLt
  have hn : (BitVec.ofNat 16 (numberOf [a, b])).toNat = a.toNat * 256 + b.toNat := by
    rw [numberOf_pair, BitVec.toNat_ofNat]
    omega
  rw [wordBytes_eq, hn]
  congr 1
  · rw [show (a.toNat * 256 + b.toNat) / 256 = a.toNat by omega, byteOf_byte]
  · congr 1
    apply BitVec.eq_of_toNat_eq
    simp only [byteOf, BitVec.toNat_ofNat]
    omega

@[simp] theorem Frame.header_length (f : Frame) : f.header.length = 5 := rfl

@[simp] theorem wordBytes_length (w : Word) : (wordBytes w).length = 2 := rfl

theorem Frame.bytes_length (f : Frame) : f.bytes.length = 7 + f.payload.length := by
  simp only [Frame.bytes, List.length_append, header_length, wordBytes_length]
  omega

theorem Frame.bytes_take (f : Frame) : f.bytes.take (f.bytes.length - 2) = f.header ++ f.payload := by
  rw [f.bytes_length, Frame.bytes, List.take_left']
  simp only [List.length_append, header_length]
  omega

theorem Frame.bytes_drop (f : Frame) : f.bytes.drop (f.bytes.length - 2) = wordBytes f.check := by
  rw [f.bytes_length, Frame.bytes, List.drop_left']
  simp only [List.length_append, header_length]
  omega

theorem Frame.bytes_payload (f : Frame) : (f.bytes.drop 5).take f.payload.length = f.payload := by
  rw [Frame.bytes, List.append_assoc, List.drop_left' f.header_length, List.take_left' rfl]

theorem Frame.bytes_getD (f : Frame) : f.bytes.getD 0 0 = f.dst ∧ f.bytes.getD 1 0 = f.src ∧
    f.bytes.getD 2 0 = f.kind.code ∧ f.bytes.getD 3 0 = f.seq ∧ f.bytes.getD 4 0 = byteOf f.payload.length :=
  ⟨rfl, rfl, rfl, rfl, rfl⟩

/-! ### The six tests -/

/-- A run of header, as many payload bytes as the length byte says, and two check bytes is the bytes of the frame
that its fields make. -/
theorem bytes_of_run {run : List Byte} {kind : FrameKind} (hl : run.length = 7 + (run.getD 4 0).toNat)
    (hk : run.getD 2 0 = kind.code) :
    ({ dst := run.getD 0 0, src := run.getD 1 0, kind := kind, seq := run.getD 3 0,
       payload := (run.drop 5).take (run.getD 4 0).toNat,
       check := BitVec.ofNat 16 (numberOf (run.drop (run.length - 2))) } : Frame).bytes = run := by
  match run, hl, hk with
  | [], hl, _ | [_], hl, _ | [_, _], hl, _ | [_, _, _], hl, _ | [_, _, _, _], hl, _ =>
    simp only [List.length_cons, List.length_nil] at hl
    omega
  | r0 :: r1 :: r2 :: r3 :: r4 :: rest, hl, hk =>
    simp only [List.length_cons, List.getD_cons_succ, List.getD_cons_zero, List.drop_succ_cons, List.drop_zero]
      at hl hk ⊢
    have hrest : rest.length = r4.toNat + 2 := by omega
    have hdrop : (rest.drop r4.toNat).length = 2 := by rw [List.length_drop]; omega
    obtain ⟨a, b, hab⟩ : ∃ a b, rest.drop r4.toNat = [a, b] := List.length_eq_two.mp hdrop
    have tail : (r0 :: r1 :: r2 :: r3 :: r4 :: rest).drop (rest.length + 1 + 1 + 1 + 1 + 1 - 2) = [a, b] := by
      rw [show rest.length + 1 + 1 + 1 + 1 + 1 - 2 = r4.toNat + 5 by omega]
      exact hab
    simp only [Frame.bytes, Frame.header, tail, wordBytes_numberOf, ← hk, List.length_take]
    rw [show min r4.toNat rest.length = r4.toNat by omega, byteOf_byte, ← hab]
    simp

/-- Settles O1: the six tests in turn, and each of them of the bytes of a frame. -/
theorem acceptedRunsAreExactlyFrames : Obligations.AcceptedRunsAreExactlyFrames := by
  intro run f
  constructor
  · intro h
    unfold judgeRun at h
    dsimp only at h
    split at h
    · cases h
    next hlen =>
    split at h
    · cases h
    next hcheck =>
    split at h
    · cases h
    next hlong =>
    split at h
    · cases h
    next hsame =>
    split at h
    · cases h
    next kind hkind =>
    split at h
    · cases h
    next hsrc =>
    simp only [Judged.good.injEq] at h
    have hn : run.length = 7 + (run.getD 4 0).toNat := not_not.mp hsame
    have hbytes : f.bytes = run := h ▸ bytes_of_run hn ((FrameKind.ofCode_eq_some_iff _ _).mp hkind)
    have hpayload : f.payload.length = (run.getD 4 0).toNat := by
      have := f.bytes_length
      rw [hbytes] at this
      omega
    refine ⟨hbytes, by omega, ?_, ?_⟩
    · rw [← h]
      exact Nat.not_lt.mp hsrc
    · rw [← f.bytes_take, hbytes, not_not.mp hcheck, ← h]
  · rintro ⟨rfl, hlen, hsrc, hcheck⟩
    obtain ⟨hdst, hsource, hkind, hseq, hcount⟩ := f.bytes_getD
    have hn := f.bytes_length
    have hb : (byteOf f.payload.length).toNat = f.payload.length := byteOf_toNat (by omega)
    unfold judgeRun
    dsimp only
    rw [if_neg (by omega), if_neg (by rw [f.bytes_take, f.bytes_drop, numberOf_wordBytes]; exact not_not.mpr hcheck.symm),
      hcount, hb, if_neg (by omega), if_neg (by omega), hkind, (FrameKind.ofCode_eq_some_iff _ _).mpr rfl]
    dsimp only
    rw [hsource, if_neg (by omega), hdst, hseq, f.bytes_payload, f.bytes_drop, numberOf_wordBytes]

/-! ### The commands at a receiver -/

theorem exec_frameArrival (p : Port) (run : List Byte) (s : State) :
    exec (.frameArrival p run) s = .next (s.ifPowered (frameArrives p run)) := rfl

theorem PortState.takes_iff (x : PortState) : x.takes = true ↔ x.link = .up ∧ x.awaitIdle = false := by
  cases hl : x.link <;> simp [PortState.takes, hl]

/-- A run that ends in an idle symbol at a port that takes it. -/
theorem frameArrives_taken {s : State} {p : Port} {run : List Byte} (hr : run ≠ [])
    (ht : (s.port p).takes = true) :
    frameArrives p run s = judgeAt p run (s.onPort p (·.lineTo .idle)) := by
  unfold frameArrives
  rw [if_neg hr]
  exact if_pos ht

theorem frameArrives_ignored {s : State} {p : Port} {run : List Byte} (hr : run ≠ [])
    (ht : (s.port p).takes = false) : frameArrives p run s = s.onPort p (·.lineTo .idle) := by
  unfold frameArrives
  rw [if_neg hr]
  exact if_neg (by simp [ht])

/-- The line idle at a port that takes frames: no measurement runs. -/
theorem PortState.lineTo_idle_up {x : PortState} (ht : x.takes = true) :
    x.lineTo .idle = { x with line := .idle, measure := none } := by
  obtain ⟨hl, ha⟩ := x.takes_iff.mp ht
  simp [PortState.lineTo, measureFor, hl, ha]

theorem State.onPort_congr {s : State} {p : Port} {f g : PortState → PortState} (h : f (s.port p) = g (s.port p)) :
    s.onPort p f = s.onPort p g := by
  unfold State.onPort
  rw [h]

/-- A run that fails one of the tests but that of the check (R6). -/
theorem judgeRun_format {run : List Byte} (h : run.length < 7 ∨ 71 < run.length ∨
    (crc16 (run.take (run.length - 2)) = BitVec.ofNat 16 (numberOf (run.drop (run.length - 2))) ∧
      (64 < (run.getD 4 0).toNat ∨ run.length ≠ 7 + (run.getD 4 0).toNat ∨ (run.getD 2 0).toNat = 0 ∨
        5 < (run.getD 2 0).toNat ∨ 126 < (run.getD 1 0).toNat))) : judgeRun run = .formatErr := by
  unfold judgeRun
  dsimp only
  split
  · rfl
  next hlen =>
  obtain ⟨hcheck, h⟩ := (h.resolve_left (by omega)).resolve_left (by omega)
  rw [if_neg (not_not.mpr hcheck)]
  split
  · rfl
  split
  · rfl
  next hlong hsame =>
  split
  · rfl
  next kind hkind =>
  have named : ¬ ((run.getD 2 0).toNat = 0 ∨ 5 < (run.getD 2 0).toNat) := fun hbad => by
    rw [(FrameKind.ofCode_eq_none_iff _).mpr hbad] at hkind
    cases hkind
  exact if_pos (by omega)

theorem judgeRun_check {run : List Byte} (h7 : 7 ≤ run.length) (h71 : run.length ≤ 71)
    (h : crc16 (run.take (run.length - 2)) ≠ BitVec.ofNat 16 (numberOf (run.drop (run.length - 2)))) :
    judgeRun run = .checkErr := by
  unfold judgeRun
  dsimp only
  rw [if_neg (by omega), if_pos h]

/-- Settles O2: by the outcome of the run's judgement at a port that takes it. -/
theorem discardedRunCountsOneError : Obligations.DiscardedRunCountsOneError := by
  intro s p run hpow hup hlisten hrun n len checkRight format
  have takes : (s.port p).takes = true := (PortState.takes_iff _).mpr ⟨hup, hlisten⟩
  have judged : exec (.frameArrival p run) s = .next (judgeAt p run (s.onPort p (·.lineTo .idle))) := by
    rw [exec_frameArrival, State.ifPowered_on hpow, frameArrives_taken hrun takes]
  have idle := PortState.lineTo_idle_up takes
  have misformed : judgeRun run = .formatErr → exec (.frameArrival p run) s = .next format := fun h => by
    rw [judged, judgeAt, h]
    dsimp only
    rw [State.onPort_onPort]
    exact congrArg _ (State.onPort_congr (by rw [idle]))
  refine ⟨fun h => misformed (judgeRun_format (h.imp_right .inl)), fun h7 h71 h => ?_,
    fun _ _ hcheck h => misformed (judgeRun_format (.inr (.inr ⟨hcheck, h⟩)))⟩
  rw [judged, judgeAt, judgeRun_check h7 h71 h]
  dsimp only
  rw [State.onPort_onPort]
  exact congrArg _ (State.onPort_congr (by rw [idle]))

/-- With no lookup waiting at a port its event changes nothing. -/
theorem lookup_nothing {s : State} {p : Port} (h : (s.port p).accepted = none) : lookup p s = s := by
  simp [lookup, h]

/-- Settles O3: the bytes of the frame are judged good, and no lookup is to be taken first. -/
theorem frameAcceptedWithStamp : Obligations.FrameAcceptedWithStamp := by
  intro s p f hpow hup hlisten hnone hlen hsrc hcheck
  have takes : (s.port p).takes = true := (PortState.takes_iff _).mpr ⟨hup, hlisten⟩
  have good : judgeRun f.bytes = .good f := (acceptedRunsAreExactlyFrames _ _).mpr ⟨rfl, hlen, hsrc, hcheck⟩
  have clear : ((s.onPort p (·.lineTo .idle)).port p).accepted = none := by
    rw [State.onPort_port_self]
    exact hnone
  have set : s.time.setBy f = true ↔
      f.kind = .sync ∧ 6 ≤ f.payload.length ∧ ∀ m, s.time.timeMaster = some m → f.src = m := by
    unfold TimeBase.setBy
    cases s.time.timeMaster <;> simp [and_assoc]
  rw [exec_frameArrival, State.ifPowered_on hpow, frameArrives_taken (by simp [Frame.bytes, Frame.header]) takes,
    judgeAt, good]
  dsimp only
  rw [lookup_nothing clear, accept, State.onPort_onPort]
  congr 2
  · exact State.onPort_congr (by rw [PortState.lineTo_idle_up takes]; simp [stampNow])
  · simp only [State.onPort_time, TimeBase.offered]
    split
    · next h => rw [if_pos (set.mp h)]; rfl
    · next h => rw [if_neg (mt set.mpr h)]

/-- Settles O4: by whether the receiver takes the run, and by what breaks it off. -/
theorem brokenOrIgnoredRunCounting : Obligations.BrokenOrIgnoredRunCounting := by
  intro s p run how hpow listens c quiet
  have hc : breakCond how = c := by cases how <;> rfl
  have broken : exec (.runBrokenOff p how) s = .next (s.onPort p fun x => x.breakRun c) := by
    rw [← hc, show exec (.runBrokenOff p how) s = .next (s.ifPowered (runBroken p how)) from rfl,
      State.ifPowered_on hpow, runBroken]
  have measured : measureFor (s.port p).link c = quiet := by
    simp only [quiet, c]
    cases (s.port p).link <;> cases how <;> rfl
  have notIdle : c ≠ .idle := by simp only [c]; cases how <;> decide
  refine ⟨fun hrun hdeaf => ?_, fun hlistens => ?_, fun hdeaf => ?_⟩
  · have ignored : (s.port p).takes = false :=
      Bool.eq_false_iff.mpr ((PortState.takes_iff _).not.mpr hdeaf)
    rw [exec_frameArrival, State.ifPowered_on hpow, frameArrives_ignored hrun ignored]
    refine congrArg _ (State.onPort_congr ?_)
    cases hl : (s.port p).link <;> simp [PortState.lineTo, measureFor, hl, Config.linkUpWait, Config.bitsPerMicro]
  · have takes : (s.port p).takes = true := (PortState.takes_iff _).mpr hlistens
    rw [broken]
    refine congrArg _ (State.onPort_congr ?_)
    simp only [PortState.breakRun, takes, if_true, PortState.lineTo, measured, if_neg notIdle]
  · have ignored : (s.port p).takes = false :=
      Bool.eq_false_iff.mpr ((PortState.takes_iff _).not.mpr hdeaf)
    rw [broken]
    refine congrArg _ (State.onPort_congr ?_)
    simp [PortState.breakRun, ignored, PortState.lineTo, measured, notIdle]

/-- Settles O5: by whether a run is being taken; the measurement that a link state and a line condition start is
written out. -/
theorem lineConditionDrivesMeasurement : Obligations.LineConditionDrivesMeasurement := by
  intro s p c hpow hne m
  have measured : measureFor (s.port p).link c = m := by
    simp only [m]
    cases (s.port p).link <;> cases c <;> rfl
  have changed : exec (.lineConditionChange p c) s = .next (s.onPort p (·.lineChange c)) :=
    congrArg _ (if_pos hpow)
  rw [changed]
  refine ⟨fun hfree => congrArg _ (State.onPort_congr ?_),
    fun hdata hup hlisten hidle => congrArg _ (State.onPort_congr ?_)⟩
  · have untaken : ¬ ((s.port p).line = .data ∧ (s.port p).takes = true) := by
      rw [PortState.takes_iff]
      rintro ⟨hdata, hup, hlisten⟩
      simp [hdata, hup, hlisten] at hfree
    rw [PortState.lineChange, if_neg hne, if_neg untaken, PortState.lineTo, measured]
  · have takes : (s.port p).takes = true := (PortState.takes_iff _).mpr ⟨hup, hlisten⟩
    rw [PortState.lineChange, if_neg hne, if_pos ⟨hdata, takes⟩, if_neg hidle, PortState.breakRun, if_pos takes]
    simp only [PortState.lineTo, measured, if_neg hidle]

/-! ### Timers -/

/-- The Arbiter of a port with both queues empty chooses nothing (R28). -/
theorem PortState.arbitrate_empty {x : PortState} (ht : x.transit = []) (hr : x.reply = []) : x.arbitrate = x := by
  unfold PortState.arbitrate PortState.choice
  simp [ht, hr]

theorem linkGoesUp_down {s : State} {p : Port} {n : Nat} (hl : (s.port p).link = .down)
    (hm : (s.port p).measure = some n) :
    linkGoesUp p s = (elapse n s).onPort p fun x =>
      PortState.arbitrate { x with link := .up, awaitIdle := false, measure := none } := by
  unfold linkGoesUp
  rw [hl, hm]

theorem linkGoesDown_up {s : State} {p : Port} {n : Nat} (hl : (s.port p).link = .up)
    (hm : (s.port p).measure = some n) :
    linkGoesDown p s = ((elapse n s).onPort p fun x =>
      PortState.egressDown { x with link := .down, awaitIdle := false, measure := none }).onClassifier
        (·.portDown p) := by
  unfold linkGoesDown
  rw [hl, hm]

theorem syncLost_running {s : State} {n : Nat} (ht : s.time.lossTimer = some n) :
    syncLost s = raise .syncLost
      ((elapse n s).withTime { (elapse n s).time with synced := false, lossTimer := none }) := by
  unfold syncLost
  rw [ht]

/-- Settles O6: each timer's event lets the time left of it pass and then makes its one change. -/
theorem linkAndSyncTimersExpire : Obligations.LinkAndSyncTimersExpire := by
  intro s n hpow
  have powered : ∀ f, State.ifPowered s f = f s := State.ifPowered_on hpow
  refine ⟨fun p hdown hmeasure hok => ?_,
    fun p hup hmeasure hmap => ⟨_, fun node => Cells.read_forget hmap (sideOf p) node, ?_⟩, fun htimer => ?_⟩
  · obtain ⟨htransit, hreply, -, -⟩ := hok.down hdown
    refine congrArg Host.Outcome.next ((powered _).trans ?_)
    rw [linkGoesUp_down hdown hmeasure]
    exact State.onPort_congr (PortState.arbitrate_empty (by rwa [elapse_port]) (by rwa [elapse_port]))
  · refine congrArg Host.Outcome.next ((powered _).trans ?_)
    rw [linkGoesDown_up hup hmeasure]
    simp only [State.onClassifier, State.onPort_classifier, elapse_classifier]
    rfl
  · refine congrArg Host.Outcome.next ((powered _).trans ?_)
    rw [syncLost_running htimer]
    rfl

/-- Settles O7: the microseconds that pass are the whole ones, and the rest is kept for the next. -/
theorem timePassesForTimersOnly : Obligations.TimePassesForTimersOnly := by
  intro s n t
  have hlt := s.time.linkTime.isLt
  refine ⟨?_, Nat.mod_lt _ (by decide), rfl, rfl, rfl, fun p => elapse_port n s p, rfl, rfl, rfl, rfl, rfl, rfl,
    rfl, rfl, rfl, rfl⟩
  simp only [t, elapse_time, elapseTime, Config.bitsPerMicro, BitVec.toNat_add, BitVec.toNat_ofNat]
  omega

end Sys2Proof.Machine
end


section
/-! Proofs about the egress sides and the Page Resolver (chapters 2 and 3): the Arbiter's choice, frames handed and
placed, the resolution of a page, and the requests that carry words. -/

namespace Sys2Proof.Machine

/-! ### The egress sides -/

/-- The Arbiter of an idle transmitter at a LINK-UP port chooses by its table (R28). -/
theorem PortState.arbitrate_ready {x : PortState} (hl : x.link = .up) (hs : x.sending = none) :
    x.arbitrate = x.choice := if_pos ⟨hl, hs⟩

theorem txCompletes_sending {s : State} {p : Port} {y : Sending} (h : (s.port p).sending = some y) :
    txCompletes p s = (elapse y.left s).onPort p PortState.txDone := by
  unfold txCompletes
  rw [h]

/-- Settles O8: the Arbiter's table is the model's own, on the port after its count. -/
theorem completionChoosesNextFrame : Obligations.CompletionChoosesNextFrame := by
  intro s p y hpow hsending hup x
  have hx : (elapsePort y.left (s.port p)).txDone = x.choice :=
    PortState.arbitrate_ready (x := { elapsePort y.left (s.port p) with
      txFrames := bump (s.port p).txFrames, sending := none }) hup rfl
  have done : exec (.txComplete p) s = .next ((elapse y.left s).withPort p x.choice) := by
    rw [show exec (.txComplete p) s = .next (s.ifPowered (txCompletes p)) from rfl, State.ifPowered_on hpow,
      txCompletes_sending hsending, State.onPort, elapse_port, hx]
  rw [done]
  rfl

theorem PortState.handTransit_down {x : PortState} (h : x.link = .down) (f : Frame) :
    x.handTransit f = { x with transitDropDown := bump x.transitDropDown } := by
  unfold PortState.handTransit
  rw [h]

theorem PortState.handTransit_full {x : PortState} (h : x.link = .up) (hr : 8 ≤ x.transit.length) (f : Frame) :
    x.handTransit f = { x with transitDropFull := bump x.transitDropFull } := by
  unfold PortState.handTransit
  rw [h]
  exact if_pos hr

theorem PortState.handTransit_room {x : PortState} (h : x.link = .up) (hr : x.transit.length < 8) (f : Frame) :
    x.handTransit f = PortState.arbitrate { x with transit := x.transit ++ [f] } := by
  unfold PortState.handTransit
  rw [h]
  exact if_neg (Nat.not_le.mpr hr)

/-- A frame placed at an idle transmitter of a LINK-UP port with nothing waiting is sent at once (R27, R29). -/
theorem PortState.place_idle {x : PortState} (h : x.link = .up) (hs : x.sending = none) (ht : x.transit = [])
    (hr : x.reply = []) (r : Reply) :
    x.place r = { x with passover := 0, sending := some ⟨r.frame, true, 8 * r.frame.bytes.length + 16⟩ } := by
  obtain ⟨⟩ := x
  simp_all [PortState.place, PortState.arbitrate, PortState.choice, Config.wireTime]

/-- A frame handed to an idle transmitter of a LINK-UP port with nothing waiting is sent at once (R25, R29). -/
theorem PortState.handTransit_idle {x : PortState} (h : x.link = .up) (hs : x.sending = none)
    (ht : x.transit = []) (hr : x.reply = []) (f : Frame) :
    x.handTransit f = { x with sending := some ⟨f, false, 8 * f.bytes.length + 16⟩ } := by
  rw [handTransit_room h (by simp [ht])]
  obtain ⟨⟩ := x
  simp_all [PortState.arbitrate, PortState.choice, Config.wireTime]

/-- Settles O9: a port in a legal state with an idle transmitter has nothing queued, so that the Arbiter chooses
the frame itself. -/
theorem handedFramesJoinOrDrop : Obligations.HandedFramesJoinOrDrop := by
  intro x f r hok
  refine ⟨fun hdown => ⟨PortState.handTransit_down hdown f, PortState.place_down hdown r⟩,
    fun hup hfull => PortState.handTransit_full hup (Nat.le_of_eq hfull.symm) f, fun hup hroom hbusy => ?joins,
    fun hup hbusy => PortState.place_sending hup hbusy r, fun hup hidle => ⟨?sent, ?placed⟩⟩
  case joins =>
    rw [PortState.handTransit_room hup hroom]
    exact PortState.arbitrate_waits (.inr hbusy)
  case sent =>
    obtain ⟨htransit, hreply⟩ := hok.idle hup hidle
    exact PortState.handTransit_idle hup hidle htransit hreply f
  case placed =>
    obtain ⟨htransit, hreply⟩ := hok.idle hup hidle
    exact PortState.place_idle hup hidle htransit hreply r

/-! ### Resolution -/

/-- Settles O10: the search of the Window Table takes the lowest window, and with none the store answers by its
operation in flight and the page's state. -/
theorem resolutionPrefersLowestWindow : Obligations.ResolutionPrefersLowestWindow := by
  intro s p covering
  refine ⟨fun w hw hcover hlow => ?_, fun hnone => ?_⟩
  · have found : s.resolver.inForce p = some w :=
      (s.resolver.inForce_eq_some_iff p hw).mpr ⟨(s.resolver.covers_iff p w).mpr hcover,
        fun v hv => (s.resolver.covers_iff p v).not.mpr (hlow v hv)⟩
    simp only [pageContent, resolve, found, Resolved.content]
  · have missed : s.resolver.inForce p = none := by
      refine List.find?_eq_none.mpr fun w hw => (s.resolver.covers_iff p w).not.mpr (hnone w ?_)
      simp only [List.mem_cons, List.not_mem_nil, or_false] at hw
      omega
    have byStore : pageContent s p = (s.store.resolve p).content s := by
      simp only [pageContent, resolve, missed]
    rw [byStore]
    refine ⟨?_, fun hlock => ?_⟩
    · rintro ⟨o, ho, hpage, hkind⟩
      simp [Store.resolve, ho, hpage, hkind, Resolved.content]
    · have available : s.store.resolve p = if s.store.state p = .valid then Resolved.store p else .blank := by
        unfold Store.resolve
        dsimp only
        split
        · rfl
        · next o ho => exact if_neg fun ⟨hpage, hkind⟩ => hkind (hlock o ho hpage)
      rw [available]
      exact ⟨fun hv => by rw [if_pos hv]; rfl, fun hv => by rw [if_neg hv]; rfl⟩

/-! ### A request at its owner, as a command -/

section AtOwner

variable {s t : State} {b : Block} {k : ReqKind} {d : Dispatch} {c : Instr}
  {carry : Dispatch → State → State × List (List Byte)}

/-- The command of a request at its owner, refused there. -/
theorem AtOwner.exec_refused (h : AtOwner s b k d)
    (he : exec c s = .next (s.ifPowered (requestEvent k b carry .owner))) {code : ResultCode}
    (hc : carry d (s.took b) = refuse d.request code (s.took b)) :
    exec c s = .next ((s.took b).answers d [k.code, code.code]) := by
  rw [he, h.event_refused hc]

/-- The command of a request at its owner, carried out there with an OK reply. -/
theorem AtOwner.exec_ok (h : AtOwner s b k d)
    (he : exec c s = .next (s.ifPowered (requestEvent k b carry .owner))) {contents : List Byte}
    (hc : carry d (s.took b) = okWith d.request contents t) :
    exec c s = .next (t.answers d (k.code :: ResultCode.ok.code :: contents)) := by
  rw [he, h.event_ok hc]

/-- The command of a request at its owner, carried out there with one reply frame. -/
theorem AtOwner.exec_reply (h : AtOwner s b k d)
    (he : exec c s = .next (s.ifPowered (requestEvent k b carry .owner))) {code : ResultCode}
    {contents : List Byte} (hc : carry d (s.took b) = (t, [replyPayload d.request code contents])) :
    exec c s = .next (t.answers d (k.code :: code.code :: contents)) := by
  rw [he, h.event_reply hc]

end AtOwner

/-! ### Requests that carry words -/

theorem wordsInRange_iff (pages : Nat) (r : Request) : wordsInRange pages r = true ↔
    r.field 1 < pages ∧ 1 ≤ r.field 3 ∧ r.field 3 ≤ 28 ∧ r.field 2 + r.field 3 ≤ 256 := by
  simp only [wordsInRange, Bool.and_eq_true, decide_eq_true_eq, and_assoc]
  exact Iff.rfl

theorem wordsOf_length : ∀ {n : Nat} {bs : List Byte}, bs.length = 2 * n → (wordsOf bs).length = n
  | 0, [], _ => rfl
  | n + 1, a :: b :: rest, h => by
    simp only [List.length_cons] at h
    rw [wordsOf, List.length_cons, wordsOf_length (n := n) (by omega)]
  | 0, _ :: _, h => by simp at h
  | n + 1, [], h | n + 1, [_], h => by simp only [List.length_cons, List.length_nil] at h; omega

/-- Word `j` of bytes that make words is made by bytes `2 j` and `2 j + 1`. -/
theorem wordsOf_getD : ∀ {n : Nat} {bs : List Byte} (j : Nat), bs.length = 2 * n → j < n →
    (wordsOf bs).getD j 0 = BitVec.ofNat 16 ((bs.getD (2 * j) 0).toNat * 256 + (bs.getD (2 * j + 1) 0).toNat)
  | n + 1, a :: b :: rest, 0, _, _ => rfl
  | n + 1, a :: b :: rest, j + 1, h, hj => by
    simp only [List.length_cons] at h
    have := wordsOf_getD (n := n) (bs := rest) j (by omega) (by omega)
    rw [wordsOf, List.getD_cons_succ, this, show 2 * (j + 1) = 2 * j + 1 + 1 by omega]
    rfl
  | n + 1, [], _, h, _ | n + 1, [_], _, h, _ => by simp only [List.length_cons, List.length_nil] at h; omega

theorem Request.words_length {r : Request} {n : Nat} (h : r.payload.length = 4 + 2 * n) : r.words.length = n :=
  wordsOf_length (by rw [List.length_drop]; omega)

theorem Request.words_getD {r : Request} {n j : Nat} (h : r.payload.length = 4 + 2 * n) (hj : j < n) :
    r.words.getD j 0 = BitVec.ofNat 16 (r.field2 (4 + 2 * j)) := by
  rw [Request.words, wordsOf_getD j (by rw [List.length_drop]; omega) hj]
  simp only [Request.field2, Request.field, List.getD_eq_getElem?_getD, List.getElem?_drop, Nat.add_assoc]

theorem wordsBytes_eq (ws : List Word) : wordsBytes ws = ws.flatMap wordBytes := by
  induction ws with
  | nil => rfl
  | cons w ws ih => rw [wordsBytes, ih, List.flatMap_cons]

theorem wordsBytes_wordsFrom (content : Nat → Word) (o n : Nat) :
    wordsBytes (wordsFrom content o n) = (List.range n).flatMap fun i => wordBytes (content (o + i)) := by
  rw [wordsBytes_eq, wordsFrom, List.flatMap_map]

theorem exec_tuneWrite (s : State) : exec (.tuneWrite .owner) s
    = .next (s.ifPowered (requestEvent .tuneWrite .resolver carryTuneWrite .owner)) := rfl

theorem exec_tuneRead (s : State) : exec (.tuneRead .owner) s
    = .next (s.ifPowered (requestEvent .tuneRead .resolver carryTuneRead .owner)) := rfl

theorem exec_pageRead (s : State) : exec (.pageRead .owner) s
    = .next (s.ifPowered (requestEvent .pageRead .resolver carryPageRead .owner)) := rfl

theorem carryTuneWrite_outOfRange {d : Dispatch} (s : State) (h : wordsInRange 4 d.request = false) :
    carryTuneWrite d s = refuse d.request .range s := by
  simp [carryTuneWrite, h]

theorem carryTuneWrite_pinned {d : Dispatch} {s : State} (h : wordsInRange 4 d.request = true)
    (hp : s.resolver.pinned (d.request.field 1) = true) :
    carryTuneWrite d s = refuse d.request .pinned s := by
  simp [carryTuneWrite, h, hp]

theorem carryTuneWrite_ok {d : Dispatch} {s : State} (h : wordsInRange 4 d.request = true)
    (hp : s.resolver.pinned (d.request.field 1) = false) :
    carryTuneWrite d s = okWith d.request []
      (s.withResolver (s.resolver.tune (d.request.field 1) (d.request.field 2) d.request.words)) := by
  simp [carryTuneWrite, h, hp]

/-- Settles O11: by the range checks and the pin; the words taken are those of the payload. -/
theorem tuneWriteReplacesWords : Obligations.TuneWriteReplacesWords := by
  intro s d hat hwf hlen t o n inRange
  have range : wordsInRange 4 d.request = true ↔ inRange := by
    rw [wordsInRange_iff, Nat.lt_succ_iff]
  refine ⟨fun hout => ?_, fun hin hpin => ?_, fun hin hpin => ?_⟩
  · have out := Bool.eq_false_iff.mpr (range.not.mpr hout)
    exact (hat.exec_refused (exec_tuneWrite s) (carryTuneWrite_outOfRange _ out) :)
  · exact (hat.exec_refused (exec_tuneWrite s) (carryTuneWrite_pinned (range.mpr hin) hpin) :)
  · have hn : d.request.words.length = n := Request.words_length hlen
    refine ⟨s.resolver.tune t o d.request.words, rfl, rfl, fun u i hi => ?_,
      hat.exec_ok (exec_tuneWrite s) (carryTuneWrite_ok (range.mpr hin) hpin)⟩
    rw [Resolver.word_tune hwf t u o i _ (by rw [hn]; exact hin.2.2.2) hi, hn]
    split
    · next hu => exact Request.words_getD hlen (by omega)
    · rfl

theorem carryTuneRead_outOfRange {d : Dispatch} (s : State) (h : wordsInRange 4 d.request = false) :
    carryTuneRead d s = refuse d.request .range s := by
  simp [carryTuneRead, h]

theorem carryTuneRead_ok {d : Dispatch} (s : State) (h : wordsInRange 4 d.request = true) :
    carryTuneRead d s = okWith d.request ([byteOf (d.request.field 1),
        flagByte (s.resolver.pinned (d.request.field 1)), byteOf (d.request.field 2), byteOf (d.request.field 3)]
      ++ (List.range (d.request.field 3)).flatMap fun i =>
          wordBytes (s.resolver.word (d.request.field 1) (d.request.field 2 + i))) s := by
  simp [carryTuneRead, h, wordsBytes_wordsFrom]

theorem Store.inFlight_iff (t : Store) (p : Nat) : t.inFlight p = true ↔ ∃ o, t.engine = some o ∧ o.page = p := by
  unfold Store.inFlight
  split <;> simp_all

theorem carryPageRead_outOfRange {d : Dispatch} (s : State) (h : wordsInRange 11 d.request = false) :
    carryPageRead d s = refuse d.request .range s := by
  simp [carryPageRead, h]

theorem carryPageRead_busy {d : Dispatch} {s : State} (h : wordsInRange 11 d.request = true)
    (hf : s.store.inFlight (d.request.field 1) = true) : carryPageRead d s = refuse d.request .busy s := by
  simp [carryPageRead, h, hf]

theorem carryPageRead_ok {d : Dispatch} {s : State} (h : wordsInRange 11 d.request = true)
    (hf : s.store.inFlight (d.request.field 1) = false) :
    carryPageRead d s = okWith d.request ([byteOf (d.request.field 1), s.store.pageByte (d.request.field 1),
        byteOf (d.request.field 2), byteOf (d.request.field 3)]
      ++ (List.range (d.request.field 3)).flatMap fun i =>
          wordBytes (s.store.readWord (d.request.field 1) (d.request.field 2 + i))) s := by
  simp [carryPageRead, h, hf, wordsBytes_wordsFrom]

/-- Settles O12: by the range checks and, for PAGE-READ, the page in flight. -/
theorem pageWordsReadAsTheyStand : Obligations.PageWordsReadAsTheyStand := by
  intro s d p o n inRange
  have range : ∀ pages, wordsInRange (pages + 1) d.request = true ↔ inRange pages := fun pages => by
    rw [wordsInRange_iff, Nat.lt_succ_iff]
  have out : ∀ pages, ¬ inRange pages → wordsInRange (pages + 1) d.request = false :=
    fun pages h => Bool.eq_false_iff.mpr ((range pages).not.mpr h)
  refine ⟨fun hat => ⟨fun hout => ?_, fun hin => ?_⟩,
    fun hat => ⟨fun hout => ?_, fun hin hflight => ?_, fun hin hfree => ?_⟩⟩
  · exact (hat.exec_refused (exec_tuneRead s) (carryTuneRead_outOfRange _ (out 3 hout)) :)
  · exact (hat.exec_ok (exec_tuneRead s) (carryTuneRead_ok _ ((range 3).mpr hin)) :)
  · exact (hat.exec_refused (exec_pageRead s) (carryPageRead_outOfRange _ (out 10 hout)) :)
  · have busy := (Store.inFlight_iff _ _).mpr hflight
    exact (hat.exec_refused (exec_pageRead s) (carryPageRead_busy ((range 10).mpr hin) busy) :)
  · have free := Bool.eq_false_iff.mpr ((Store.inFlight_iff _ _).not.mpr hfree)
    refine (hat.exec_ok (exec_pageRead s) (carryPageRead_ok ((range 10).mpr hin) free)).trans ?_
    simp only [Store.pageByte, Store.readWord]
    rfl

end Sys2Proof.Machine
end


section
/-! Proofs about the lookup of an accepted frame (chapters 2 and 4): what is taken before it, the fate by kind, the
frame that takes no class, the matched frame, and the Match List search. -/

namespace Sys2Proof.Machine

/-! ### What is taken before a lookup -/

theorem intake_nothing {s : State} {p : Port} (h : (s.port p).request = none) : intake p s = s := by
  unfold intake waitingAt
  rw [h]

theorem summaryArrive_nothing {s : State} (h : s.trigger.passage = none) : summaryArrive s = s := by
  unfold summaryArrive Trigger.arrive
  rw [h]
  rfl

/-- With no request and no summary waiting nothing is taken before a lookup (R69, R177). -/
theorem clearWay_nothing {s : State} {p : Port} (hr : (s.port p).request = none) (hs : s.trigger.passage = none) :
    clearWay p s = s := by
  rw [clearWay, intake_nothing hr, summaryArrive_nothing hs]

/-- The state of a lookup before which nothing is taken: the frame no longer waits and its source was heard. -/
theorem lookedUp_nothing {s : State} {p : Port} (hr : (s.port p).request = none) (hs : s.trigger.passage = none)
    (node : Byte) : s.lookedUp p node
      = (s.onPort p fun x => { x with accepted := none }).withClassifier (s.classifier.heard node p) := by
  rw [State.lookedUp, clearWay_nothing hr hs, State.onClassifier, State.onPort_classifier]

theorem lookup_some {s : State} {p : Port} {x : Accepted} (h : (s.port p).accepted = some x) :
    lookup p s = fate p x (s.lookedUp p x.frame.src) := by
  unfold lookup
  rw [h]
  rfl

/-- The lookup of a frame before which nothing is taken, as a command. -/
theorem exec_lookup {s : State} {p : Port} {x : Accepted} (hpow : s.powered = true)
    (ha : (s.port p).accepted = some x) : exec (.lookup p) s = .next (fate p x (s.lookedUp p x.frame.src)) := by
  rw [show exec (.lookup p) s = .next (s.ifPowered (lookup p)) from rfl, State.ifPowered_on hpow, lookup_some ha]

/-! ### The fate by kind -/

section Fate

variable {s : State} {p : Port} {x : Accepted}

theorem fate_forwarded (h : x.frame.kind = .sync ∨ x.frame.kind = .mgmtRsp ∨ x.frame.kind = .alert) :
    fate p x s = forward p x.frame s := by
  unfold fate
  dsimp only
  rcases h with h | h | h <;> rw [h]

theorem fate_request (h : x.frame.kind = .mgmtReq) : fate p x s =
    if x.frame.dst = s.agent.profile.address then handRequest p x.frame s
    else if x.frame.dst = 127 ∧ ReqKind.ofPayload x.frame.payload = some .identify then
      forward p x.frame (handRequest p x.frame s)
    else forward p x.frame s := by
  unfold fate
  dsimp only
  rw [h]

theorem fate_data (h : x.frame.kind = .data) : fate p x s =
    if x.frame.dst = s.agent.profile.address then s.onClassifier fun c => { c with toSelf := bump c.toSelf }
    else lookupFull p x s := by
  unfold fate
  dsimp only
  rw [h]

end Fate

theorem ReqKind.ofPayload_identify_iff (bs : List Byte) :
    ReqKind.ofPayload bs = some .identify ↔ bs.head? = some 0x01 := by
  cases bs with
  | nil => simp [ReqKind.ofPayload]
  | cons c rest =>
    simp only [ReqKind.ofPayload, List.head?_cons, Option.some.injEq]
    revert c
    decide

/-- Settles O15: by the kind of the frame and, for a request or data, its destination. -/
theorem lookupFatesByKind : Obligations.LookupFatesByKind := by
  intro s p f st hpow hacc hreq hpass own side heard taken handed forwarded identify
  have looked : exec (.lookup p) s = .next (fate p ⟨f, st⟩ (taken.withClassifier heard)) := by
    rw [exec_lookup hpow hacc, lookedUp_nothing hreq hpass]
    cases p <;> rfl
  have address : (taken.withClassifier heard).agent.profile.address = own := by
    simp only [taken, State.withClassifier_agent, State.onPort_agent, own]
  have hands : handRequest p f (taken.withClassifier heard) = handed.withClassifier heard := by
    cases p <;> rfl
  have forwards : ∀ t, forward p f t = forwarded t := fun t => by cases p <;> rfl
  have hidentify : ReqKind.ofPayload f.payload = some .identify ↔ f.payload.head? = some 0x01 :=
    ReqKind.ofPayload_identify_iff f.payload
  rw [looked]
  refine ⟨fun hkind => ?_, fun hkind hown => ?_, fun hkind hother hid => ?_, fun hkind hother hid => ?_,
    fun hkind hown => ?_⟩
  · rw [fate_forwarded hkind, forwards]
  · rw [fate_request hkind, address, if_pos hown, hands]
  · rw [fate_request hkind, address, if_neg hother, if_pos ⟨hid.1, hidentify.mpr hid.2⟩, hands, forwards]
  · rw [fate_request hkind, address, if_neg hother, if_neg (fun h => hid ⟨h.1, hidentify.mp h.2⟩), forwards]
  · rw [fate_data hkind, address, if_pos hown]
    rfl

/-! ### A DATA frame that takes no class -/

/-- The content of a page depends on the Resolver and the store alone (R41, R42). -/
theorem pageContent_congr {s t : State} (hr : t.resolver = s.resolver) (hs : t.store = s.store) (p : Nat) :
    pageContent t p = pageContent s p := by
  unfold pageContent resolve
  rw [hr, hs]
  split
  · simp only [Resolved.content, hr]
  · cases s.store.resolve p <;> simp only [Resolved.content, hr, hs]

theorem lookupUnmatched_pass {s : State} (h : s.agent.profile.unmatched = .pass) (p : Port) (f : Frame) :
    lookupUnmatched p f s = forward p f (s.onClassifier fun c => { c with unmatched := bump c.unmatched }) := by
  unfold lookupUnmatched
  rw [h]

theorem lookupUnmatched_hold {s : State} (h : s.agent.profile.unmatched = .hold) (p : Port) (f : Frame) :
    lookupUnmatched p f s = (s.onClassifier fun c => { c with unmatched := bump c.unmatched }).onClassifier
      fun c => { c with holdDiscard := bump c.holdDiscard } := by
  unfold lookupUnmatched
  rw [h]

theorem lookupFull_unavailable {s : State} {p : Port} {x : Accepted} (h : pageContent s 1 = none) :
    lookupFull p x s
      = forward p x.frame (s.onClassifier fun c => { c with unresolved := bump c.unresolved }) := by
  unfold lookupFull
  rw [h]

theorem lookupFull_unmatched {s : State} {p : Port} {x : Accepted} {page : Nat → Word}
    (h : pageContent s 1 = some page) (hm : matchSearch page p x.frame = none) :
    lookupFull p x s = lookupUnmatched p x.frame s := by
  unfold lookupFull
  simp only [h, hm]

theorem lookupFull_matched {s : State} {p : Port} {x : Accepted} {page : Nat → Word} {e : MatchEntry}
    (h : pageContent s 1 = some page) (hm : matchSearch page p x.frame = some e) :
    lookupFull p x s = lookupMatched p x e s := by
  unfold lookupFull
  simp only [h, hm]

/-- The state in which a DATA frame is looked up, with nothing to be taken before it. -/
def State.looking (s : State) (p : Port) (node : Byte) : State :=
  (s.onPort p fun x => { x with accepted := none }).withClassifier (s.classifier.heard node p)

theorem exec_lookup_data {s : State} {p : Port} {f : Frame} {st : Stamp} (hpow : s.powered = true)
    (hacc : (s.port p).accepted = some ⟨f, st⟩) (hreq : (s.port p).request = none)
    (hpass : s.trigger.passage = none) (hkind : f.kind = .data) (hother : f.dst ≠ s.agent.profile.address) :
    exec (.lookup p) s = .next (lookupFull p ⟨f, st⟩ (s.looking p f.src)) := by
  have address : (s.looking p f.src).agent.profile.address = s.agent.profile.address := by
    simp [State.looking]
  rw [exec_lookup hpow hacc, lookedUp_nothing hreq hpass, ← State.looking, fate_data hkind, address, if_neg hother]

theorem pageContent_looking (s : State) (p : Port) (node : Byte) (n : Nat) :
    pageContent (s.looking p node) n = pageContent s n :=
  pageContent_congr (by simp [State.looking]) (by simp [State.looking]) n

theorem looking_agent (s : State) (p : Port) (node : Byte) : (s.looking p node).agent = s.agent := by
  simp [State.looking]

/-- Settles O16: by the content of page 1, the search, and the unmatched action of the profile. -/
theorem lookupWithoutClass : Obligations.LookupWithoutClass := by
  intro s p f st hpow hacc hreq hpass hkind hother side heard taken forwarded
  have looked := exec_lookup_data hpow hacc hreq hpass hkind hother
  have profile : (s.looking p f.src).agent.profile = s.agent.profile := by rw [looking_agent]
  have content := pageContent_looking s p f.src 1
  rw [looked]
  refine ⟨fun hnone => ?_, fun page hpage hmiss => ⟨fun hun => ?_, fun hun => ?_⟩⟩
  · rw [lookupFull_unavailable (content.trans hnone)]
    cases p <;> rfl
  · have pass : (s.looking p f.src).agent.profile.unmatched = .pass := by rw [profile]; exact hun
    rw [lookupFull_unmatched (x := ⟨f, st⟩) (content.trans hpage) hmiss, lookupUnmatched_pass pass]
    cases p <;> rfl
  · have hold : (s.looking p f.src).agent.profile.unmatched = .hold := by rw [profile]; exact hun
    rw [lookupFull_unmatched (x := ⟨f, st⟩) (content.trans hpage) hmiss, lookupUnmatched_hold hold]
    cases p <;> rfl

/-! ### The matched frame -/

theorem actForward_eq (a : Action) (p : Port) (f : Frame) (s : State) : actForward a p f s =
    (if a = .pass ∨ a = .passRecord then s.onPort (otherPort p) (·.handTransit f) else s).withClassifier
      { s.classifier with
        holdDiscard := if a = .hold then bump s.classifier.holdDiscard else s.classifier.holdDiscard } := by
  cases a with
  | pass | passRecord => cases p <;> rfl
  | hold | recordOnly => rfl

theorem State.onPort_withClassifier (s : State) (x : Classifier) (p : Port) (f : PortState → PortState) :
    (s.withClassifier x).onPort p f = (s.onPort p f).withClassifier x := by
  cases p <;> rfl

theorem nodeUpdate_eq (nodes : Option (Nat → Word)) (f : Frame) (c : Classifier) : nodeUpdate nodes f c =
    { c with nodeState := if nodes.isNone then c.nodeState else (c.tookSeq f.src f.seq).nodeState } := by
  cases nodes <;> rfl

theorem someUnavailable_iff (a b c : Option (Nat → Word)) :
    someUnavailable a b c = true ↔ a = none ∨ b = none ∨ c = none := by
  simp [someUnavailable, or_assoc]

theorem records_iff (a : Action) : a.records = true ↔ a = .passRecord ∨ a = .recordOnly := by
  cases a <;> simp [Action.records]

/-- The Trigger Unit after a lookup that hands it a summary, if it hands one. -/
def Trigger.passed (t : Trigger) (y : Option Summary) : Trigger :=
  match y with
  | some y => { t with passage := some y }
  | none => t

theorem passSummary_eq (y : Option Summary) (s : State) : passSummary y s = s.withTrigger (s.trigger.passed y) := by
  cases y <;> rfl

/-- The Classifier after the lookup of a matched frame, but for the map entry of its source (R61, R63, R65, R71). -/
def Classifier.matched (c : Classifier) (e : MatchEntry) (f : Frame) (nodes : Bool) (u : Count) : Classifier :=
  { c with
    classCount := Cells.write 0 c.classCount e.cls (bump (Cells.read 0 c.classCount e.cls))
    nodeState := if nodes then c.nodeState else (c.tookSeq f.src f.seq).nodeState
    holdDiscard := if e.action = .hold then bump c.holdDiscard else c.holdDiscard
    unresolved := u }

theorem lookupMatched_eq (p : Port) (x : Accepted) (e : MatchEntry) (s : State) :
    let nodes := pageContent s 10
    let map := pageContent s (fieldMapPage e.cls)
    let set := pageContent s (triggerSetPage e.cls)
    let recorded := e.action.records && !someUnavailable nodes map set
    let lost := e.action.records && someUnavailable nodes map set
    lookupMatched p x e s = ((if e.action = .pass ∨ e.action = .passRecord then
        s.onPort (otherPort p) (·.handTransit x.frame) else s).withTrigger
          (s.trigger.passed (if recorded then summaryOf nodes map set e.cls x s else none))).withClassifier
        (s.classifier.matched e x.frame nodes.isNone
          (if lost then bump s.classifier.unresolved else s.classifier.unresolved)) := by
  intro nodes map set recorded lost
  have acted : actForward e.action p x.frame
      (s.onClassifier fun c => nodeUpdate nodes x.frame (c.countClass e.cls))
      = (if e.action = .pass ∨ e.action = .passRecord then s.onPort (otherPort p) (·.handTransit x.frame)
          else s).withClassifier (s.classifier.matched e x.frame nodes.isNone s.classifier.unresolved) := by
    rw [actForward_eq, State.onClassifier, State.onPort_withClassifier, nodeUpdate_eq]
    split <;> rfl
  unfold lookupMatched
  dsimp only
  rw [acted]
  by_cases hrec : e.action.records = true
  · by_cases hun : someUnavailable nodes map set = true
    · rw [if_pos hrec, if_pos hun]
      simp only [recorded, lost, hrec, hun]
      split <;> cases p <;> rfl
    · rw [if_pos hrec, if_neg hun, passSummary_eq]
      simp only [recorded, lost, hrec, hun]
      split <;> cases p <;> rfl
  · rw [if_neg hrec]
    simp only [recorded, lost, hrec]
    split <;> cases p <;> rfl

/-- The summary a lookup makes depends on the Trigger Unit and the Node State Table alone (R67). -/
theorem summaryOf_congr {s t : State} (ht : t.trigger = s.trigger)
    (hn : t.classifier.nodeState = s.classifier.nodeState) (a b c : Option (Nat → Word)) (cls : Nat) (x : Accepted) :
    summaryOf a b c cls x t = summaryOf a b c cls x s := by
  have last : ∀ node, t.classifier.lastSeq node = s.classifier.lastSeq node := fun node => by
    unfold Classifier.lastSeq
    rw [hn]
  unfold summaryOf
  simp only [ht, last]

/-- The Trigger Unit after the lookup of a matched frame (R67, R69). -/
def State.triggerMatched (s : State) (e : MatchEntry) (x : Accepted) : Trigger :=
  let nodes := pageContent s 10
  let map := pageContent s (fieldMapPage e.cls)
  let set := pageContent s (triggerSetPage e.cls)
  s.trigger.passed
    (if e.action.records && !someUnavailable nodes map set then summaryOf nodes map set e.cls x s else none)

/-- With nothing recorded, or a page missing, no summary is handed over (R63, R67). -/
theorem triggerMatched_unrecorded {s : State} {e : MatchEntry} {x : Accepted}
    (h : ¬ (e.action = .passRecord ∨ e.action = .recordOnly) ∨ (pageContent s 10 = none ∨
      pageContent s (fieldMapPage e.cls) = none ∨ pageContent s (triggerSetPage e.cls) = none)) :
    s.triggerMatched e x = s.trigger := by
  have unrecorded : ¬ (e.action.records && !someUnavailable (pageContent s 10)
      (pageContent s (fieldMapPage e.cls)) (pageContent s (triggerSetPage e.cls))) = true := by
    rw [Bool.and_eq_true, records_iff, Bool.not_eq_true', Bool.eq_false_iff, ne_eq, someUnavailable_iff]
    tauto
  rw [State.triggerMatched, if_neg unrecorded]
  rfl

/-- With a frame recorded and its pages resolved, the Trigger Unit takes the summary that is made (R69). -/
theorem triggerMatched_recorded {s : State} {e : MatchEntry} {x : Accepted} {n m k : Nat → Word}
    (hn : pageContent s 10 = some n) (hm : pageContent s (fieldMapPage e.cls) = some m)
    (hk : pageContent s (triggerSetPage e.cls) = some k) (hr : e.action = .passRecord ∨ e.action = .recordOnly) :
    s.triggerMatched e x = s.trigger.passed (summaryOf (some n) (some m) (some k) e.cls x s) := by
  have recorded : e.action.records = true := (records_iff _).mpr hr
  simp only [State.triggerMatched, hn, hm, hk, recorded]
  rfl

/-- Settles O17: by what the lookup of a matched frame does to the Classifier, to the other port and to the
summary in passage; the pages are read before any of it changes. -/
theorem lookupOfMatchedFrame : Obligations.LookupOfMatchedFrame := by
  intro s p f st page e hpow hacc hreq hpass hkind hother hpage hmatch nodes map set c records side lost10 missing
    taken passed
  have looked := exec_lookup_data hpow hacc hreq hpass hkind hother
  have content := pageContent_looking s p f.src
  have trigger : (s.looking p f.src).trigger = s.trigger := by simp [State.looking]
  have summary := summaryOf_congr (t := s.looking p f.src) (s := s) trigger rfl
  rw [lookupFull_matched (x := ⟨f, st⟩) ((content 1).trans hpage) hmatch, lookupMatched_eq] at looked
  simp only [content, summary, trigger] at looked
  have lost : (e.action.records && someUnavailable nodes map set) = true ↔ records ∧ missing := by
    rw [Bool.and_eq_true, records_iff, someUnavailable_iff]
  refine ⟨_, s.triggerMatched e ⟨f, st⟩, rfl, triggerMatched_unrecorded, ?_,
    looked.trans (congrArg Host.Outcome.next ?_)⟩
  · intro n m k hn hm hk hr silent y
    have made : summaryOf (some n) (some m) (some k) e.cls ⟨f, st⟩ s = if silent then none else some y := rfl
    rw [triggerMatched_recorded hn hm hk hr, made]
    exact ⟨fun h => by rw [if_pos h]; rfl, fun h => by rw [if_neg h]; rfl⟩
  · have counted : (if (e.action.records && someUnavailable nodes map set) = true then bump c.unresolved
        else c.unresolved) = if records ∧ missing then bump c.unresolved else c.unresolved := if_congr lost rfl rfl
    rw [← counted]
    simp only [passed]
    split <;> cases p <;> rfl

/-! ### The Match List search -/

/-- The first index below `n` that gives something. -/
theorem findSome_range_eq_some_iff {α : Type} {g : Nat → Option α} {a : α} : ∀ {n : Nat},
    (List.range n).findSome? g = some a ↔ ∃ i, i < n ∧ g i = some a ∧ ∀ j, j < i → g j = none
  | 0 => by simp
  | n + 1 => by
    rw [List.range_succ, List.findSome?_append, Option.or_eq_some_iff, findSome_range_eq_some_iff,
      List.findSome?_eq_none_iff]
    simp only [List.mem_range, List.findSome?_singleton]
    constructor
    · rintro (⟨i, hi, hg⟩ | ⟨hnone, hg⟩)
      · exact ⟨i, Nat.lt_succ_of_lt hi, hg⟩
      · exact ⟨n, Nat.lt_succ_self n, hg, hnone⟩
    · rintro ⟨i, hi, hg, hlow⟩
      rcases Nat.lt_succ_iff_lt_or_eq.mp hi with hi | rfl
      · exact .inl ⟨i, hi, hg, hlow⟩
      · exact .inr ⟨hlow, hg⟩

theorem Direction.admits_iff (d : Direction) (p : Port) :
    d.admits p = true ↔ (d = .downstream → p = .U) ∧ (d = .upstream → p = .D) := by
  cases d <;> simp [Direction.admits]

theorem numberOf_drop_take {bs : List Byte} {o : Nat} (h : o + 2 ≤ bs.length) :
    numberOf ((bs.drop o).take 2) = (bs.getD o 0).toNat * 256 + (bs.getD (o + 1) 0).toNat := by
  have pair : (bs.drop o).take 2 = [bs.getD o 0, bs.getD (o + 1) 0] := by
    rw [List.drop_eq_getElem_cons (by omega), List.drop_eq_getElem_cons (by omega),
      List.getD_eq_getElem _ _ (by omega), List.getD_eq_getElem _ _ (by omega)]
    rfl
  rw [pair, numberOf_pair]

/-- The key test in the words of R60. -/
theorem MatchEntry.keyHolds_iff (e : MatchEntry) (bs : List Byte) : e.keyHolds bs = true ↔
    e.keyPresent = false ∨ (e.keyOffset + 2 ≤ bs.length ∧
      BitVec.ofNat 16 ((bs.getD e.keyOffset 0).toNat * 256 + (bs.getD (e.keyOffset + 1) 0).toNat) &&& e.keyMask
        = e.keyValue &&& e.keyMask) := by
  simp only [MatchEntry.keyHolds, Bool.or_eq_true, Bool.not_eq_true', Bool.and_eq_true, decide_eq_true_eq,
    beq_iff_eq]
  refine or_congr_right (and_congr_right fun h => ?_)
  rw [numberOf_drop_take h]

theorem MatchEntry.holds_iff (e : MatchEntry) (p : Port) (f : Frame) : e.holds p f = true ↔
    (e.direction = .downstream → p = .U) ∧ (e.direction = .upstream → p = .D) ∧
      (e.source = 255 ∨ e.source = f.src.toNat) ∧ (e.destination = 255 ∨ e.destination = f.dst.toNat) ∧
      e.minLength ≤ f.payload.length ∧ e.keyHolds f.payload = true := by
  simp only [MatchEntry.holds, Bool.and_eq_true, Bool.or_eq_true, beq_iff_eq, decide_eq_true_eq,
    Direction.admits_iff, and_assoc]

theorem matchSearch_eq_some_iff (page : Nat → Word) (p : Port) (f : Frame) (e : MatchEntry) :
    matchSearch page p f = some e ↔ ∃ i, i < 32 ∧ matchEntry page i = some e ∧ e.holds p f = true ∧
      ∀ j, j < i → ∀ x, matchEntry page j = some x → ¬ x.holds p f = true := by
  rw [matchSearch, findSome_range_eq_some_iff]
  refine exists_congr fun i => and_congr_right fun _ => ?_
  rw [← and_assoc]
  refine and_congr ?_ (forall_congr' fun j => imp_congr_right fun _ => ?_)
  · cases matchEntry page i with
    | none => simp
    | some x =>
      simp only [Option.ite_none_right_eq_some, Option.some.injEq]
      exact ⟨fun ⟨hx, he⟩ => ⟨he, he ▸ hx⟩, fun ⟨he, hx⟩ => ⟨he ▸ hx, he⟩⟩
  · cases matchEntry page j with
    | none => simp
    | some x => simp

/-! ### The fields of a Match List entry -/

theorem wordField_eq (w : Word) (lo len : Nat) : wordField w lo len = w.toNat / 2 ^ lo % 2 ^ len := by
  rw [wordField, Nat.shiftRight_eq_div_pow]

theorem wordBit_iff (w : Word) (i : Nat) : wordBit w i = true ↔ w.toNat / 2 ^ i % 2 = 1 := by
  rw [wordBit, BitVec.getLsbD, Nat.testBit_eq_decide_div_mod_eq, decide_eq_true_iff]

/-- The direction that a listed encoding names (11.6). -/
def Direction.ofField : Nat → Direction
  | 0 => .either
  | 1 => .downstream
  | _ => .upstream

/-- The action that a listed encoding names (11.6). -/
def Action.ofField : Nat → Action
  | 0 => .pass
  | 1 => .passRecord
  | 2 => .hold
  | _ => .recordOnly

theorem Direction.ofCode_lt {n : Nat} (h : n < 3) : Direction.ofCode n = some (Direction.ofField n) := by
  interval_cases n <;> rfl

theorem Action.ofCode_lt {n : Nat} (h : n < 4) : Action.ofCode n = some (Action.ofField n) := by
  interval_cases n <;> rfl

/-- The entry that the words of a Match List page give, where it is enabled and its encodings are listed (11.6). -/
def entryOf (page : Nat → Word) (i : Nat) : MatchEntry :=
  let w := fun k => (page (8 * i + k)).toNat
  { direction := Direction.ofField (w 0 / 4096 % 4)
    action := Action.ofField (w 0 / 256 % 8)
    cls := w 0 % 256
    source := w 1 / 256
    destination := w 1 % 256
    minLength := w 2 / 256
    keyPresent := decide (w 0 / 16384 % 2 = 1)
    keyOffset := w 2 % 256
    keyValue := page (8 * i + 3)
    keyMask := page (8 * i + 4) }

/-- An entry that takes no part in the search: disabled, or with an encoding or a value that 11.6 does not list. -/
def entryIdle (page : Nat → Word) (i : Nat) : Prop :=
  let w := fun k => (page (8 * i + k)).toNat
  w 0 < 32768 ∨ w 0 / 4096 % 4 = 3 ∨ 3 < w 0 / 256 % 8 ∨ 31 < w 0 % 256 ∨
    (126 < w 1 / 256 ∧ w 1 / 256 ≠ 255) ∨ (127 < w 1 % 256 ∧ w 1 % 256 ≠ 255) ∨ 64 < w 2 / 256 ∨
    (w 0 / 16384 % 2 = 1 ∧ 62 < w 2 % 256)

theorem Direction.ofCode_some {n : Nat} {d : Direction} (h : Direction.ofCode n = some d) : n < 3 := by
  match n, h with
  | 0, _ | 1, _ | 2, _ => decide

theorem Action.ofCode_some {n : Nat} {a : Action} (h : Action.ofCode n = some a) : n < 4 := by
  match n, h with
  | 0, _ | 1, _ | 2, _ | 3, _ => decide

theorem matchEntry_idle {page : Nat → Word} {i : Nat} (h : entryIdle page i) : matchEntry page i = none := by
  have h1 := (page (8 * i + 1)).isLt
  have h2 := (page (8 * i + 2)).isLt
  unfold matchEntry
  dsimp only
  split
  · rfl
  next henabled =>
  have henabled : wordBit (page (8 * i + 0)) 15 = true := by simpa using henabled
  rw [wordBit_iff] at henabled
  split
  · next d a hd ha =>
    have hdir := Direction.ofCode_some hd
    have hact := Action.ofCode_some ha
    refine if_pos ?_
    simp only [entryIdle] at h
    simp only [wordField_eq, wordBit_iff] at hdir hact ⊢
    omega
  · rfl

theorem matchEntry_active {page : Nat → Word} {i : Nat} (h : ¬ entryIdle page i) :
    matchEntry page i = some (entryOf page i) := by
  have h0 := (page (8 * i + 0)).isLt
  have h1 := (page (8 * i + 1)).isLt
  have h2 := (page (8 * i + 2)).isLt
  have enabled : wordBit (page (8 * i + 0)) 15 = true := by
    simp only [entryIdle] at h
    rw [wordBit_iff]
    omega
  have key : wordBit (page (8 * i + 0)) 14 = decide ((page (8 * i + 0)).toNat / 16384 % 2 = 1) := by
    rw [Bool.eq_iff_iff, wordBit_iff, decide_eq_true_iff]
    exact Iff.rfl
  have source : (page (8 * i + 1)).toNat / 2 ^ 8 % 2 ^ 8 = (page (8 * i + 1)).toNat / 256 := by omega
  have minLength : (page (8 * i + 2)).toNat / 2 ^ 8 % 2 ^ 8 = (page (8 * i + 2)).toNat / 256 := by omega
  simp only [entryIdle] at h
  unfold matchEntry
  dsimp only
  rw [enabled, if_neg (by decide)]
  simp only [wordField_eq]
  rw [Direction.ofCode_lt (by omega), Action.ofCode_lt (by omega)]
  dsimp only
  rw [if_neg (by rw [wordBit_iff]; omega), key, source, minLength]
  simp only [entryOf, Nat.pow_zero, Nat.div_one]
  rfl

theorem matchEntry_eq_none_iff (page : Nat → Word) (i : Nat) : matchEntry page i = none ↔ entryIdle page i :=
  ⟨fun h => by_contra fun hactive => by simp [matchEntry_active hactive] at h, matchEntry_idle⟩

theorem gapFlag_iff (check : Bool) (last : Option Byte) (seq : Byte) : gapFlag check last seq = true ↔
    check = true ∧ ∃ l, last = some l ∧ seq.toNat ≠ (l.toNat + 1) % 256 := by
  have next : ∀ l : Byte, seq ≠ l + 1 ↔ seq.toNat ≠ (l.toNat + 1) % 256 := fun l => by
    rw [ne_eq, ← BitVec.toNat_inj, BitVec.toNat_add]
    rfl
  cases last with
  | none => simp [gapFlag]
  | some l => simp only [gapFlag, Bool.and_eq_true, decide_eq_true_eq, next, Option.some.injEq, exists_eq_left']

/-- Settles O18: the search, an entry's words and the gap flag are each said once above. -/
theorem firstMatchingEntryWins : Obligations.FirstMatchingEntryWins := by
  refine ⟨fun page p f e => ?_, matchEntry_eq_none_iff, fun page i e h => ?_, gapFlag_iff⟩
  · simp only [matchSearch_eq_some_iff, MatchEntry.holds_iff, MatchEntry.keyHolds_iff]
  · have active : ¬ entryIdle page i := fun hidle => by simp [matchEntry_idle hidle] at h
    rw [matchEntry_active active] at h
    exact (Option.some.inj h).symm

end Sys2Proof.Machine
end


section
/-! Proof that what waits before a lookup, and a lookup that waits before an acceptance, is taken first (R7, R69,
R177; log entry 13). The line condition of a port is no part of what an intake or a lookup reads or changes, so that
the idle symbol which ends a run may be taken before or after them. -/

namespace Sys2Proof.Machine

/-! ### The idle symbol and the other operations -/

/-- A LINK-UP receiver once an idle symbol has come: the line idle, nothing measured, nothing waited for. -/
def PortState.hush (x : PortState) : PortState := { x with line := .idle, measure := none, awaitIdle := false }

/-- The state once an idle symbol has come at a LINK-UP port. -/
def State.hush (s : State) (p : Port) : State := s.onPort p PortState.hush

namespace State

variable (s : State) (p : Port)

@[simp] theorem hush_powered : (s.hush p).powered = s.powered := by simp [hush]
@[simp] theorem hush_strap : (s.hush p).strap = s.strap := by simp [hush]
@[simp] theorem hush_time : (s.hush p).time = s.time := by simp [hush]
@[simp] theorem hush_classifier : (s.hush p).classifier = s.classifier := by simp [hush]
@[simp] theorem hush_resolver : (s.hush p).resolver = s.resolver := by simp [hush]
@[simp] theorem hush_store : (s.hush p).store = s.store := by simp [hush]
@[simp] theorem hush_trigger : (s.hush p).trigger = s.trigger := by simp [hush]
@[simp] theorem hush_agent : (s.hush p).agent = s.agent := by simp [hush]
@[simp] theorem hush_draws : (s.hush p).draws = s.draws := by simp [hush]

theorem hush_port (q : Port) : (s.hush p).port q = if q = p then (s.port q).hush else s.port q := by
  cases p <;> cases q <;> rfl

/-- The parts of a port that the line condition is not. -/
theorem hush_port_keeps {α : Type} {f : PortState → α} (hf : ∀ x, f x.hush = f x) (q : Port) :
    f ((s.hush p).port q) = f (s.port q) := by
  rw [hush_port]
  split
  · exact hf _
  · rfl

@[simp] theorem hush_free (q : Port) : ((s.hush p).port q).free = (s.port q).free :=
  hush_port_keeps s p (f := PortState.free) (fun _ => rfl) q
@[simp] theorem hush_request (q : Port) : ((s.hush p).port q).request = (s.port q).request :=
  hush_port_keeps s p (f := PortState.request) (fun _ => rfl) q
@[simp] theorem hush_accepted (q : Port) : ((s.hush p).port q).accepted = (s.port q).accepted :=
  hush_port_keeps s p (f := PortState.accepted) (fun _ => rfl) q

@[simp] theorem hush_withAgent (a : Agent) : (s.hush p).withAgent a = (s.withAgent a).hush p := by cases p <;> rfl
@[simp] theorem hush_withClassifier (x : Classifier) :
    (s.hush p).withClassifier x = (s.withClassifier x).hush p := by cases p <;> rfl
@[simp] theorem hush_withTrigger (x : Trigger) : (s.hush p).withTrigger x = (s.withTrigger x).hush p := by
  cases p <;> rfl
@[simp] theorem hush_drew (n : Nat) : drew n (s.hush p) = (drew n s).hush p := by cases p <;> rfl

/-- A change of a port that does not read or set the line condition. -/
theorem hush_onPort {g : PortState → PortState} (hg : ∀ x, g x.hush = (g x).hush) (q : Port) :
    (s.hush p).onPort q g = (s.onPort q g).hush p := by
  cases p <;> cases q <;> simp [hush, onPort, withPort, port, hg]

end State

theorem PortState.choice_hush (x : PortState) : x.hush.choice = x.choice.hush := by
  unfold PortState.choice
  split <;> simp_all [PortState.hush]
  split <;> rfl

theorem PortState.arbitrate_hush (x : PortState) : x.hush.arbitrate = x.arbitrate.hush := by
  unfold PortState.arbitrate
  rw [choice_hush]
  exact (apply_ite PortState.hush _ _ _).symm

theorem PortState.place_hush (r : Reply) (x : PortState) : x.hush.place r = (x.place r).hush := by
  unfold PortState.place
  cases hl : x.link with
  | down => simp [PortState.hush, hl]
  | up => 
    have := PortState.arbitrate_hush { x with reply := x.reply ++ [r] }
    simpa [PortState.hush, hl] using this

theorem PortState.placeAll_hush (rs : List Reply) (x : PortState) : x.hush.placeAll rs = (x.placeAll rs).hush := by
  induction rs generalizing x with
  | nil => rfl
  | cons r rs ih => rw [placeAll_cons, placeAll_cons, place_hush, ih]

theorem PortState.handTransit_hush (f : Frame) (x : PortState) : x.hush.handTransit f = (x.handTransit f).hush := by
  unfold PortState.handTransit
  cases hl : x.link with
  | down => simp [PortState.hush, hl]
  | up =>
    have := PortState.arbitrate_hush { x with transit := x.transit ++ [f] }
    simp only [PortState.hush, hl] at this ⊢
    split
    · rfl
    · exact this

/-! ### An intake and the idle symbol -/

section Intake

variable (s : State) (p : Port) (r : Request)

@[simp] theorem placeFrames_hush (q : Port) (fs : List Frame) :
    placeFrames q fs (s.hush p) = (placeFrames q fs s).hush p :=
  s.hush_onPort p (PortState.placeAll_hush _) q

@[simp] theorem answer_hush (entry held : Nat) (ps : List (List Byte)) :
    answer r entry held ps (s.hush p) = (answer r entry held ps s).hush p := by
  have placed := s.hush_onPort p (g := fun x => PortState.placeAll (plainReplies (ps.map (s.agent.buildReply r)))
    { x with reservation := x.reservation - held })
    (fun x => PortState.placeAll_hush _ { x with reservation := x.reservation - held }) r.port
  simp only [answer, State.hush_agent]
  rw [placed, State.hush_withAgent]

@[simp] theorem replyUncached_hush (payload : List Byte) :
    replyUncached r payload (s.hush p) = (replyUncached r payload s).hush p := by simp [replyUncached]

@[simp] theorem replyNow_hush (entry : Nat) (c : ResultCode) (contents : List Byte) :
    replyNow r entry c contents (s.hush p) = (replyNow r entry c contents s).hush p := by simp [replyNow]

@[simp] theorem hold_hush (q : Port) (n : Nat) : hold q n (s.hush p) = (hold q n s).hush p :=
  s.hush_onPort p (g := fun x => { x with reservation := x.reservation + n }) (fun _ => rfl) q

@[simp] theorem dropRequest_hush (q : Port) : dropRequest q (s.hush p) = (dropRequest q s).hush p :=
  s.hush_onPort p (g := fun x => { x with requestDrop := bump x.requestDrop }) (fun _ => rfl) q

@[simp] theorem dispatchTo_hush (b : Block) (entry held : Nat) :
    dispatchTo b r entry held (s.hush p) = (dispatchTo b r entry held s).hush p := by simp [dispatchTo]

@[simp] theorem beginGather_hush (k : GatherKind) (entry held : Nat) (blocks : List Block) :
    beginGather k r entry held blocks (s.hush p) = (beginGather k r entry held blocks s).hush p := by
  simp [beginGather]

@[simp] theorem acceptRestart_hush : acceptRestart r (s.hush p) = (acceptRestart r s).hush p := by
  have placed := s.hush_onPort p (PortState.place_hush
    ⟨s.agent.buildReply r (replyPayload r .ok []), s.agent.egressOwed r.port + 1⟩) r.port
  simp only [acceptRestart, State.hush_agent, placed]
  simp

theorem carryOut_hush (k : ReqKind) (entry : Nat) :
    carryOut k r entry (s.hush p) = (carryOut k r entry s).hush p := by
  cases k with
  | identify => rfl
  | status => simp [carryOut, carryStatus]
  | counters =>
    simp only [carryOut, carryCounters, State.hush_free]
    split <;> simp
  | countersClear => simp [carryOut, carryCountersClear]
  | restart =>
    simp only [carryOut, carryRestart, State.hush_store]
    split <;> simp
  | openSession =>
    simp only [carryOut, carryOpenSession, State.hush_agent]
    split <;> simp
  | closeSession => simp [carryOut, carryCloseSession]
  | alertAck =>
    simp only [carryOut, carryAlertAck, State.hush_agent]
    split <;> simp
  | _ => simp [carryOut, ownerOf]

theorem repeatRequest_hush (e : CacheEntry) : repeatRequest e r (s.hush p) = (repeatRequest e r s).hush p := by
  simp only [repeatRequest, State.hush_agent, State.hush_free, State.hush_withAgent]
  split
  · simp
  · split <;> simp

theorem afterEntry_hush (k : ReqKind) (entry : Nat) :
    afterEntry k r entry (s.hush p) = (afterEntry k r entry s).hush p := by
  simp only [afterEntry, State.hush_agent]
  split
  · simp
  · split
    · simp
    · exact carryOut_hush s p r k entry

theorem intakeRequest_hush : intakeRequest r (s.hush p) = (intakeRequest r s).hush p := by
  simp only [intakeRequest, State.hush_free]
  split
  · simp
  split
  · simp
  split
  · unfold carryIdentify
    split <;> simp
  simp only [intakeKnown, State.hush_agent]
  split
  · simp
  split
  · exact repeatRequest_hush s p r _
  · rw [makeEntry, State.hush_agent, State.hush_withAgent]
    exact afterEntry_hush _ p r _ _

theorem intake_hush (q : Port) : intake q (s.hush p) = (intake q s).hush p := by
  have received := s.hush_onPort p (g := fun x => { x with request := none }) (fun _ => rfl) q
  simp only [intake, waitingAt, State.hush_request]
  split
  · rfl
  · rw [received, State.hush_agent, State.hush_withAgent]
    exact intakeRequest_hush _ p _

end Intake

/-! ### A lookup and the idle symbol -/

section Lookup

variable (s : State) (p : Port)

theorem summaryArrive_hush : summaryArrive (s.hush p) = (summaryArrive s).hush p := by simp [summaryArrive]

@[simp] theorem onClassifier_hush (f : Classifier → Classifier) :
    (s.hush p).onClassifier f = (s.onClassifier f).hush p := by simp [State.onClassifier]

@[simp] theorem forward_hush (q : Port) (f : Frame) : forward q f (s.hush p) = (forward q f s).hush p :=
  s.hush_onPort p (PortState.handTransit_hush f) _

@[simp] theorem handRequest_hush (q : Port) (f : Frame) : handRequest q f (s.hush p) = (handRequest q f s).hush p :=
  s.hush_onPort p (g := fun x => { x with request := some ⟨q, f.src, f.seq, f.payload⟩ }) (fun _ => rfl) q

@[simp] theorem actForward_hush (a : Action) (q : Port) (f : Frame) :
    actForward a q f (s.hush p) = (actForward a q f s).hush p := by
  cases a <;> simp [actForward]

@[simp] theorem passSummary_hush (y : Option Summary) : passSummary y (s.hush p) = (passSummary y s).hush p := by
  cases y <;> simp [passSummary]

@[simp] theorem pageContent_hush (n : Nat) : pageContent (s.hush p) n = pageContent s n :=
  pageContent_congr (by simp) (by simp) n

theorem lookupMatched_hush (q : Port) (x : Accepted) (e : MatchEntry) :
    lookupMatched q x e (s.hush p) = (lookupMatched q x e s).hush p := by
  have summary := summaryOf_congr (t := s.hush p) (s := s) (by simp) (by simp)
  simp only [lookupMatched, pageContent_hush, onClassifier_hush, actForward_hush, summary]
  split
  · split <;> simp
  · rfl

theorem lookupUnmatched_hush (q : Port) (f : Frame) :
    lookupUnmatched q f (s.hush p) = (lookupUnmatched q f s).hush p := by
  simp only [lookupUnmatched, onClassifier_hush, State.hush_agent]
  split <;> simp

theorem fate_hush (q : Port) (x : Accepted) : fate q x (s.hush p) = (fate q x s).hush p := by
  simp only [fate, State.hush_agent]
  split
  · split
    · simp
    · split <;> simp
  · simp
  · simp
  · simp
  · split
    · simp
    · simp only [lookupFull, pageContent_hush]
      split
      · simp
      · split
        · exact lookupMatched_hush s p q x _
        · exact lookupUnmatched_hush s p q _

theorem clearWay_hush (q : Port) : clearWay q (s.hush p) = (clearWay q s).hush p := by
  rw [clearWay, intake_hush, summaryArrive_hush, clearWay]

theorem lookup_hush (q : Port) : lookup q (s.hush p) = (lookup q s).hush p := by
  have gone := (clearWay q s).hush_onPort p (g := fun y => { y with accepted := none }) (fun _ => rfl) q
  simp only [lookup, State.hush_accepted]
  split
  · rfl
  · rw [clearWay_hush, gone, onClassifier_hush]
    exact fate_hush _ p q _

end Lookup

/-! ### What an intake and a lookup leave at their port -/

/-- The receiver of a port, and the frame that waits there for its lookup, as they were. -/
structure ReceiverKept (x y : PortState) : Prop where
  accepted : y.accepted = x.accepted
  link : y.link = x.link
  awaitIdle : y.awaitIdle = x.awaitIdle

namespace ReceiverKept

variable {x y z : PortState} {s t : State}

theorem refl (x : PortState) : ReceiverKept x x := ⟨rfl, rfl, rfl⟩

theorem trans (h : ReceiverKept x y) (h' : ReceiverKept y z) : ReceiverKept x z :=
  ⟨h'.accepted.trans h.accepted, h'.link.trans h.link, h'.awaitIdle.trans h.awaitIdle⟩

theorem onPort {f : PortState → PortState} (hf : ∀ x, ReceiverKept x (f x)) (s : State) (p q : Port) :
    ReceiverKept (s.port p) ((s.onPort q f).port p) := by
  by_cases hq : p = q
  · subst hq
    rw [State.onPort_port_self]
    exact hf _
  · rw [State.onPort_port_other _ _ hq]
    exact refl _

theorem place (r : Reply) (x : PortState) : ReceiverKept x (x.place r) := by
  obtain ⟨tr, re, se, pa, lo, h⟩ := x.place_frame r
  rw [h]
  exact ⟨rfl, rfl, rfl⟩

theorem handTransit (f : Frame) (x : PortState) : ReceiverKept x (x.handTransit f) := by
  obtain ⟨tr, re, se, pa, h⟩ := PortState.arbitrate_frame { x with transit := x.transit ++ [f] }
  unfold PortState.handTransit
  split
  · exact ⟨rfl, rfl, rfl⟩
  · split
    · exact ⟨rfl, rfl, rfl⟩
    · rw [h]
      exact ⟨rfl, rfl, rfl⟩

/-- The Agent's side of an event does not touch the receivers. -/
theorem agentSide (h : AgentSide s t) (p : Port) : ReceiverKept (s.port p) (t.port p) := by
  induction h with
  | refl => exact refl _
  | agent | draw => simpa [drew]
  | receive q _ ih =>
    exact ih.trans (onPort (f := fun x => { x with request := none }) (fun _ => ⟨rfl, rfl, rfl⟩) _ p q)
  | drop q _ ih =>
    exact ih.trans (onPort (f := fun x => { x with requestDrop := bump x.requestDrop })
      (fun _ => ⟨rfl, rfl, rfl⟩) _ p q)
  | reserve q f _ ih =>
    exact ih.trans (onPort (f := fun x => { x with reservation := f x.reservation }) (fun _ => ⟨rfl, rfl, rfl⟩) _ p q)
  | place q r _ ih => exact ih.trans (onPort (place r) _ p q)

/-- The fate of a frame does not touch the receivers. -/
theorem fated (h : Fated s t) (p : Port) : ReceiverKept (s.port p) (t.port p) := by
  induction h with
  | refl => exact refl _
  | heard | counted | tookSeq | bumped => simpa [State.onClassifier]
  | forward q f _ ih => exact ih.trans (onPort (handTransit f) _ p _)
  | hand q f _ ih =>
    exact ih.trans (onPort (f := fun x => { x with request := some ⟨q, f.src, f.seq, f.payload⟩ })
      (fun _ => ⟨rfl, rfl, rfl⟩) _ p q)
  | pass y _ _ ih => rw [passSummary_eq]; simpa using ih

end ReceiverKept

/-- No request comes to a port from the Agent's side of an event. -/
theorem AgentSide.request_none {s t : State} (h : AgentSide s t) {p : Port} (hs : (s.port p).request = none) :
    (t.port p).request = none := by
  have onPort : ∀ (u : State) (q : Port) (f : PortState → PortState),
      (∀ x, x.request = none → (f x).request = none) → (u.port p).request = none →
        ((u.onPort q f).port p).request = none := by
    intro u q f hf hu
    by_cases hq : p = q
    · subst hq
      rw [State.onPort_port_self]
      exact hf _ hu
    · rwa [State.onPort_port_other _ _ hq]
  induction h with
  | refl => exact hs
  | agent | draw => simpa [drew]
  | receive q _ ih => exact onPort _ q _ (fun _ _ => rfl) ih
  | drop q _ ih | reserve q _ _ ih => exact onPort _ q _ (fun _ h => h) ih
  | place q r _ ih =>
    refine onPort _ q _ (fun x hx => ?_) ih
    obtain ⟨tr, re, se, pa, lo, h⟩ := x.place_frame r
    rw [h]
    exact hx

/-- An intake leaves no request at its port. -/
theorem intake_request (p : Port) (s : State) : ((intake p s).port p).request = none := by
  unfold intake waitingAt
  split
  · assumption
  · next r _ =>
    refine (AgentSide.refl.intakeRequest _).request_none ?_
    simp [State.onPort_port_self]

theorem Trigger.arrive_passage (t : Trigger) : t.arrive.passage = none := by
  unfold Trigger.arrive
  split
  · assumption
  · dsimp only
    split
    · rfl
    · split <;> rfl

/-- A frame accepted at a port that takes it: the lookup that waits there is taken with the line idle (R7). -/
theorem exec_frameArrival_good {s : State} {p : Port} {f : Frame} (hpow : s.powered = true)
    (hup : (s.port p).link = .up) (hlisten : (s.port p).awaitIdle = false)
    (hgood : judgeRun f.bytes = .good f) :
    exec (.frameArrival p f.bytes) s = .next (accept p f (lookup p (s.hush p))) := by
  have takes : (s.port p).takes = true := (PortState.takes_iff _).mpr ⟨hup, hlisten⟩
  have idle : s.onPort p (·.lineTo .idle) = s.hush p :=
    State.onPort_congr (by rw [PortState.lineTo_idle_up takes, PortState.hush, ← hlisten])
  rw [exec_frameArrival, State.ifPowered_on hpow, frameArrives_taken (by simp [Frame.bytes, Frame.header]) takes,
    idle, judgeAt, hgood]

/-- Settles O19: what waits before a lookup is gone once it was taken, so that the lookup takes nothing more; and
the idle symbol that ends a run may be taken before or after the lookup. -/
theorem waitingEventsTakenFirst : Obligations.WaitingEventsTakenFirst := by
  intro s p hpow hwaits t
  obtain ⟨x, hx⟩ := Option.ne_none_iff_exists'.mp hwaits
  have request : (t.port p).request = none := by simpa [t, summaryArrive] using intake_request p s
  have passage : t.trigger.passage = none := Trigger.arrive_passage _
  have kept : ReceiverKept (s.port p) (t.port p) := by
    simpa [t, summaryArrive] using ReceiverKept.agentSide (AgentSide.refl.intake p) p
  have powered : t.powered = true := by
    have := (QueueKept.agentSide (AgentSide.refl (s := s) |>.intake p)).powered
    simpa [t, summaryArrive, hpow] using this
  have way : t.lookedUp p x.frame.src = s.lookedUp p x.frame.src := by
    rw [State.lookedUp, clearWay_nothing request passage]
    rfl
  have looked := exec_lookup hpow hx
  refine ⟨⟨request, passage, kept.accepted, ?_⟩, fun f u hup hlisten hlen hsrc hcheck hu => ?_⟩
  · rw [looked, exec_lookup powered (kept.accepted.trans hx), way]
  · obtain rfl : fate p x (s.lookedUp p x.frame.src) = u := Host.Outcome.next.inj (looked.symm.trans hu)
    have good : judgeRun f.bytes = .good f := (acceptedRunsAreExactlyFrames _ _).mpr ⟨rfl, hlen, hsrc, hcheck⟩
    have fated := Fated.fate (s := s.lookedUp p x.frame.src) p x
    have before : ReceiverKept { s.port p with accepted := none } ((s.lookedUp p x.frame.src).port p) := by
      simp only [State.lookedUp, State.onClassifier, State.withClassifier_port, State.onPort_port_self]
      exact ⟨rfl, kept.link, kept.awaitIdle⟩
    have after := before.trans (ReceiverKept.fated fated p)
    have on : (fate p x (s.lookedUp p x.frame.src)).powered = true := by
      rw [(QueueKept.course (Course.fated fated)).powered, ← way, State.lookedUp, clearWay_nothing request passage]
      simp [State.onClassifier, powered]
    have nothing : ((fate p x (s.lookedUp p x.frame.src)).hush p |>.port p).accepted = none := by
      rw [State.hush_accepted]
      exact after.accepted
    rw [exec_frameArrival_good hpow hup hlisten good, lookup_hush, lookup_some hx,
      exec_frameArrival_good on (after.link.trans hup) (after.awaitIdle.trans hlisten) good, lookup_nothing nothing]

end Sys2Proof.Machine
end


section
/-! Proofs about field extraction and the Trigger Unit (chapters 5 and 6): the value list of a payload, the words of
a condition and what each kind does, the evaluation of the head summary, summaries and notices. -/

namespace Sys2Proof.Machine

/-! ### Field extraction -/

/-- The number that `n` bytes from an offset on make, most significant first (R76). -/
theorem numberOf_slice (bs : List Byte) (o : Nat) : ∀ n, o + n ≤ bs.length → numberOf ((bs.drop o).take n)
    = ((List.range n).map fun j => (bs.getD (o + j) 0).toNat * 256 ^ (n - 1 - j)).sum
  | 0, _ => rfl
  | n + 1, h => by
    have step : (bs.drop o).take (n + 1) = (bs.drop o).take n ++ [bs.getD (o + n) 0] := by
      rw [List.take_add_one, List.getElem?_drop, List.getElem?_eq_getElem (by omega), Option.toList_some,
        List.getD_eq_getElem _ _ (by omega)]
    have weights : ∀ j ∈ List.range n, (bs.getD (o + j) 0).toNat * 256 ^ (n + 1 - 1 - j)
        = (bs.getD (o + j) 0).toNat * 256 ^ (n - 1 - j) * 256 := fun j hj => by
      have := List.mem_range.mp hj
      rw [Nat.mul_assoc, ← Nat.pow_succ]
      congr 2
      omega
    rw [step, numberOf, List.foldl_append, ← numberOf, numberOf_slice bs o n (by omega), List.range_succ,
      List.map_append, List.sum_append, List.map_congr_left weights, List.sum_map_mul_right]
    simp

/-- The type that a listed code names: its code, its width and whether it is signed (R73, R74). -/
theorem ValueType.ofCode_listed {n : Nat} (h1 : 1 ≤ n) (h8 : n ≤ 8) : ∃ t, ValueType.ofCode n = some t ∧
    t.code = n ∧ t.width = (n + 1) / 2 ∧ (t.signed = true ↔ n % 2 = 0) := by
  interval_cases n <;> exact ⟨_, rfl, rfl, rfl, by decide⟩

theorem ValueType.ofCode_unlisted {n : Nat} (h : ¬ (1 ≤ n ∧ n ≤ 8)) : ValueType.ofCode n = none := by
  match n, h with
  | 0, _ => rfl
  | _ + 9, _ => rfl
  | 1, h | 2, h | 3, h | 4, h | 5, h | 6, h | 7, h | 8, h => exact absurd (by decide) h

theorem ValueType.width_pos (t : ValueType) : 1 ≤ t.width := by cases t <;> decide

/-- A value in two's complement over its width (R76). -/
theorem ValueType.assemble_eq (t : ValueType) (bs : List Byte) : t.assemble bs =
    if t.signed = true ∧ 256 ^ t.width ≤ 2 * numberOf bs then (numberOf bs : Int) - 256 ^ t.width
    else numberOf bs := by
  have half : 2 ^ (8 * t.width - 1) ≤ numberOf bs ↔ 256 ^ t.width ≤ 2 * numberOf bs := by
    have := t.width_pos
    rw [show (256 : Nat) = 2 ^ 8 by norm_num, ← Nat.pow_mul,
      show 2 ^ (8 * t.width) = 2 * 2 ^ (8 * t.width - 1) by rw [← Nat.pow_succ']; congr 1; omega]
    omega
  have whole : (2 : Int) ^ (8 * t.width) = 256 ^ t.width := by
    rw [pow_mul]
    norm_num
  simp only [ValueType.assemble, Bool.and_eq_true, decide_eq_true_eq, half, whole]

/-- The entry of a descriptor word, in the terms of R73 and R75. -/
def descriptorFits (payload : List Byte) (w : Word) : Prop :=
  w.toNat / 256 ≤ 63 ∧ 1 ≤ w.toNat % 256 ∧ w.toNat % 256 ≤ 8 ∧
    w.toNat / 256 + (w.toNat % 256 + 1) / 2 ≤ payload.length

theorem extractEntry_absent {payload : List Byte} {w : Word} (h : ¬ descriptorFits payload w) :
    extractEntry payload w = none := by
  have hw := w.isLt
  have hoffset : w.toNat / 2 ^ 8 % 2 ^ 8 = w.toNat / 256 := by omega
  unfold extractEntry
  simp only [wordField_eq, hoffset, Nat.pow_zero, Nat.div_one]
  split
  · rfl
  next hsmall =>
  split
  · rfl
  next t ht =>
  by_cases hcode : 1 ≤ w.toNat % 256 ∧ w.toNat % 256 ≤ 8
  · obtain ⟨t', ht', -, hwidth, -⟩ := ValueType.ofCode_listed hcode.1 hcode.2
    obtain rfl : t' = t := Option.some.inj (ht'.symm.trans ht)
    refine if_neg fun hfit => h ⟨Nat.not_lt.mp hsmall, hcode.1, hcode.2, ?_⟩
    rwa [hwidth] at hfit
  · have := ValueType.ofCode_unlisted hcode
    rw [show (256 : Nat) = 2 ^ 8 from rfl, ht] at this
    cases this

theorem extractEntry_present {payload : List Byte} {w : Word} (h : descriptorFits payload w) :
    let width := (w.toNat % 256 + 1) / 2
    let number := ((List.range width).map fun j =>
      (payload.getD (w.toNat / 256 + j) 0).toNat * 256 ^ (width - 1 - j)).sum
    ∃ v : Value, extractEntry payload w = some v ∧ v.type.code = w.toNat % 256 ∧
      v.val = if w.toNat % 256 % 2 = 0 ∧ 256 ^ width ≤ 2 * number then (number : Int) - 256 ^ width
        else number := by
  intro width number
  have hw := w.isLt
  have hoffset : w.toNat / 2 ^ 8 % 2 ^ 8 = w.toNat / 256 := by omega
  obtain ⟨hsmall, h1, h8, hfit⟩ := h
  obtain ⟨t, ht, hcode, hwidth, hsigned⟩ := ValueType.ofCode_listed h1 h8
  refine ⟨⟨t, t.assemble ((payload.drop (w.toNat / 256)).take t.width)⟩, ?_, hcode, ?_⟩
  · unfold extractEntry
    simp only [wordField_eq, hoffset, Nat.pow_zero, Nat.div_one]
    rw [if_neg (by omega), show w.toNat % 2 ^ 8 = w.toNat % 256 from rfl, ht]
    exact if_pos (by rwa [hwidth])
  · have hn : numberOf ((payload.drop (w.toNat / 256)).take t.width) = number := by
      rw [hwidth]
      exact numberOf_slice _ _ _ hfit
    rw [ValueType.assemble_eq, hn, hwidth]
    simp only [hsigned]
    rfl

/-- Settles O20: by whether a descriptor's field lies in the payload. -/
theorem valueListFromFieldMap : Obligations.ValueListFromFieldMap := by
  intro page c payload base count
  refine ⟨by simp [valueList, wordsFrom]; rfl, fun i hi => ?_⟩
  have entry : (valueList page c payload).getD i none = extractEntry payload (page (base + 1 + i)) := by
    have hi : i < mapCount page c := hi
    simp only [valueList, wordsFrom, List.map_map, List.getD_eq_getElem?_getD, List.getElem?_map,
      List.getElem?_range hi]
    rfl
  intro offset code width number present
  rw [entry]
  exact ⟨extractEntry_absent, extractEntry_present⟩

/-! ### Conditions -/

/-- Two words make a number in two's complement, the high word first (11.6). -/
theorem toInt_pair (x y : Word) : (x ++ y).toInt =
    if x.toNat * 65536 + y.toNat < 2 ^ 31 then ((x.toNat * 65536 + y.toNat : Nat) : Int)
    else ((x.toNat * 65536 + y.toNat : Nat) : Int) - 2 ^ 32 := by
  have hn : (x ++ y).toNat = x.toNat * 65536 + y.toNat := by
    rw [BitVec.toNat_append, ← Nat.shiftLeft_add_eq_or_of_lt y.isLt, Nat.shiftLeft_eq]
  rw [BitVec.toInt_eq_toNat_cond, hn]
  have : 2 * (x.toNat * 65536 + y.toNat) < 2 ^ (16 + 16) ↔ x.toNat * 65536 + y.toNat < 2 ^ 31 := by omega
  simp only [this]
  rfl

theorem judgeAbove_eq (l : Int) (h : Nat) (v : Int) (e : CondState) : judgeAbove l h v e =
    if e.armed then (decide (l < v), { e with armed := decide (v ≤ l) })
    else (false, { e with armed := decide (v ≤ l - h) }) := by
  obtain ⟨counter, armed, reference⟩ := e
  cases armed with
  | true => by_cases hv : l < v <;> simp [judgeAbove, hv, not_le.mpr, not_lt.mp]
  | false => by_cases hv : v ≤ l - h <;> simp [judgeAbove, hv]

theorem judgeBelow_eq (l : Int) (h : Nat) (v : Int) (e : CondState) : judgeBelow l h v e =
    if e.armed then (decide (v < l), { e with armed := decide (l ≤ v) })
    else (false, { e with armed := decide (l + h ≤ v) }) := by
  obtain ⟨counter, armed, reference⟩ := e
  cases armed with
  | true => by_cases hv : v < l <;> simp [judgeBelow, hv, not_le.mpr, not_lt.mp]
  | false => by_cases hv : l + h ≤ v <;> simp [judgeBelow, hv]

theorem distance_iff (d v r : Int) : d ≤ distance v r ↔ d ≤ v - r ∨ d ≤ r - v := by
  rw [distance, le_abs, neg_sub]

/-- An EVERY whose count is out of range and a CHANGE with a negative delta act as NONE (R93). -/
theorem Cond.actsAs_every {c : Cond} (h : c.kind = .every) :
    c.actsAs = if 1 ≤ c.a ∧ c.a ≤ 65535 then .every else .none := by
  unfold Cond.actsAs
  rw [h]

theorem Cond.actsAs_change {c : Cond} (h : c.kind = .change) :
    c.actsAs = if c.a < 0 then .none else .change := by
  unfold Cond.actsAs
  rw [h]

theorem Cond.actsAs_kind {c : Cond} (h1 : c.kind ≠ .every) (h2 : c.kind ≠ .change) : c.actsAs = c.kind := by
  unfold Cond.actsAs
  split
  · exact absurd ‹_› h1
  · exact absurd ‹_› h2
  · rfl

section Judge

variable {c : Cond} {x : Summary} {seen : Bool} {e : CondState}

theorem Cond.actsAs_of {k : CondKind} (h : c.kind = k) (h1 : k ≠ .every) (h2 : k ≠ .change) : c.actsAs = k := by
  subst h
  exact actsAs_kind h1 h2

/-- A condition that acts as NONE (R95). -/
theorem Cond.judge_none (h : c.actsAs = .none) : c.judge x seen e = (false, e) := by
  unfold Cond.judge
  rw [h]

theorem Cond.judge_above (h : c.kind = .above) :
    c.judge x seen e = withValue (c.value x.values) e (judgeAbove c.a c.b) := by
  unfold Cond.judge
  rw [actsAs_of h (by decide) (by decide)]

theorem Cond.judge_below (h : c.kind = .below) :
    c.judge x seen e = withValue (c.value x.values) e (judgeBelow c.a c.b) := by
  unfold Cond.judge
  rw [actsAs_of h (by decide) (by decide)]

theorem Cond.judge_change (h : c.kind = .change) (ha : 0 ≤ c.a) :
    c.judge x seen e = withValue (c.value x.values) e (judgeChange c.a) := by
  unfold Cond.judge
  rw [actsAs_change h, if_neg (by omega)]

theorem Cond.judge_change_void (h : c.kind = .change) (ha : c.a < 0) : c.judge x seen e = (false, e) :=
  judge_none (by rw [actsAs_change h, if_pos ha])

theorem Cond.judge_every (h : c.kind = .every) (h1 : 1 ≤ c.a) (h2 : c.a ≤ 65535) :
    c.judge x seen e = judgeEvery c.a e := by
  unfold Cond.judge
  rw [actsAs_every h, if_pos ⟨h1, h2⟩]

theorem Cond.judge_every_void (h : c.kind = .every) (ha : c.a < 1 ∨ 65535 < c.a) :
    c.judge x seen e = (false, e) :=
  judge_none (by rw [actsAs_every h, if_neg (by omega)])

/-- A condition without a value at its field index neither fires nor changes its entry (R94). -/
theorem Cond.judge_absent (hk : c.kind = .above ∨ c.kind = .below ∨ c.kind = .change)
    (hv : x.values.getD c.field none = none) : c.judge x seen e = (false, e) := by
  have value : c.value x.values = none := by rw [Cond.value, hv]; rfl
  rcases hk with hk | hk | hk
  · rw [judge_above hk, value]
    rfl
  · rw [judge_below hk, value]
    rfl
  · by_cases ha : c.a < 0
    · exact judge_change_void hk ha
    · rw [judge_change hk (by omega), value]
      rfl

end Judge

/-- Settles O21: kind by kind; the words of a condition are read as 11.6 lays them out. -/
theorem conditionsJudgedByKind : Obligations.ConditionsJudgedByKind := by
  refine ⟨fun page cls i => ?words, fun c x seen e => ⟨fun hk => ?none, fun hk => ?always, fun hk => ?first,
    fun hk => ?seqGap, Cond.judge_every_void, Cond.judge_every, Cond.judge_absent, fun v hv => ?present⟩⟩
  case words =>
    have number := toInt_pair (page (32 * (cls % 8) + 8 * i + 2)) (page (32 * (cls % 8) + 8 * i + 3))
    simp only [readCond, classBase, number]
    rfl
  case none => exact Cond.judge_none (Cond.actsAs_of hk (by decide) (by decide))
  case always | first | seqGap =>
    simp only [Cond.judge, Cond.actsAs_of hk (by decide) (by decide)]
  case present =>
    have value : c.value x.values = some v.val := by rw [Cond.value, hv]; rfl
    refine ⟨fun hk => ?_, fun hk => ?_, Cond.judge_change_void, fun hk ha hnone => ?_, fun r hk ha hr => ?_⟩
    · exact (Cond.judge_above hk).trans (by rw [value]; exact judgeAbove_eq _ _ _ _)
    · exact (Cond.judge_below hk).trans (by rw [value]; exact judgeBelow_eq _ _ _ _)
    · refine (Cond.judge_change hk ha).trans ?_
      simp only [value, withValue, judgeChange, hnone]
    · refine (Cond.judge_change hk ha).trans ?_
      simp only [value, withValue, judgeChange, hr, distance_iff]

/-! ### Evaluation -/

theorem exec_evaluation {s : State} (hpow : s.powered = true) : exec .evaluation s = .next (evaluateHead s) :=
  congrArg _ (State.ifPowered_on hpow _)

theorem evaluateHead_taken {s : State} {x : Summary} {rest : List Summary} (hr : s.trigger.state = .running)
    (hq : s.trigger.queue = x :: rest) (hh : s.trigger.handOff = none) :
    evaluateHead s = s.withTrigger (s.trigger.evaluate x rest) := by
  unfold evaluateHead
  rw [hr, hq, hh]

theorem evaluateHead_none {s : State}
    (h : s.trigger.state = .frozen ∨ s.trigger.queue = [] ∨ s.trigger.handOff ≠ none) : evaluateHead s = s := by
  unfold evaluateHead
  split
  · next x rest hr hq hh => simp [hr, hq, hh] at h
  · rfl

/-- The Condition State Table after an evaluation: the four entries of the summary's class, made together (R104). -/
theorem Trigger.read_condsAfter {t : Trigger} (hw : Cells.Wf CondState.atArm t.conds) (x : Summary) (c : Nat) {i : Nat}
    (hi : i < 4) : Cells.read CondState.atArm (t.condsAfter x) (4 * c + i)
      = if c = x.cls then (t.judged x i).2 else Cells.read CondState.atArm t.conds (4 * c + i) := by
  unfold Trigger.condsAfter condKey
  rw [Cells.read_writeAll hw]
  by_cases hc : c = x.cls
  · subst hc
    rw [if_pos (by simp; omega), if_pos rfl]
    interval_cases i <;> simp
  · rw [if_neg (by simp; omega), if_neg hc]

/-- The Seen-Node Sets after an evaluation (R102). -/
theorem Trigger.read_seenAfter {t : Trigger} (hw : Cells.Wf false t.seen) (x : Summary) (hx : x.source.toNat ≤ 126)
    (c : Nat) {n : Nat} (hn : n < 128) : Cells.read false (t.seenAfter x) (128 * c + n) = true ↔
      Cells.read false t.seen (128 * c + n) = true ∨
        (t.firstFired x = true ∧ c = x.cls ∧ n = x.source.toNat) := by
  unfold Trigger.seenAfter seenKey
  split
  · next hfirst =>
    rw [Cells.read_write hw]
    by_cases hkey : 128 * c + n = 128 * x.cls + x.source.toNat
    · rw [if_pos hkey]
      have : c = x.cls ∧ n = x.source.toNat := by omega
      simp [hfirst, this]
    · rw [if_neg hkey]
      have : ¬ (c = x.cls ∧ n = x.source.toNat) := by omega
      simp [hfirst, this]
  · next hfirst => simp [hfirst]

theorem Trigger.firstFired_iff (t : Trigger) (x : Summary) : t.firstFired x = true ↔
    ∃ i ∈ t.fired x, (x.cond i).kind = .first := by
  simp [Trigger.firstFired]

/-- Settles O22: the head summary is judged against the state as it stood; with none to take nothing changes. -/
theorem evaluationJudgesHeadSummary : Obligations.EvaluationJudgesHeadSummary := by
  intro s hpow
  rw [exec_evaluation hpow]
  refine ⟨fun h => by rw [evaluateHead_none h], fun x rest hrun hqueue hhand hconds hseen hsource => ?_⟩
  intro entry seen judged fired first
  refine ⟨s.trigger.condsAfter x, s.trigger.seenAfter x, fun c i hi => s.trigger.read_condsAfter hconds x c hi,
    fun c n hn => ?_, ?_⟩
  · rw [s.trigger.read_seenAfter hseen x hsource c hn, Trigger.firstFired_iff]
    rfl
  · rw [evaluateHead_taken hrun hqueue hhand, Trigger.evaluate]
    have hfired : s.trigger.fired x = fired := rfl
    simp only [hfired]
    cases fired with
    | nil => rfl
    | cons cause more => rfl

/-! ### Summaries and notices -/

theorem takeNotice_first {s : State} {n : Notice} {rest : List Notice} (h : s.trigger.notices = n :: rest)
    (f : Trigger → Trigger) : takeNotice n f s = s.withTrigger (f { s.trigger with notices := rest }) := by
  unfold takeNotice
  rw [h]
  exact if_pos rfl

/-- Settles O23: by the state of the unit and the room of its queue; a notice is the oldest or is not taken. -/
theorem summariesAndNoticesAtTrigger : Obligations.SummariesAndNoticesAtTrigger := by
  intro s hpow t
  have on : ∀ f, State.ifPowered s f = f s := State.ifPowered_on hpow
  refine ⟨fun x hx => ?_, fun rest h => ?_, fun rest h => ?_, fun rest h => ?_⟩
  · have arrives : exec .summaryArrival s = .next (s.withTrigger t.arrive) := congrArg _ (on _)
    rw [arrives]
    refine ⟨fun hrun hroom => ?_, fun hrun hfull => ?_, fun hfrozen => ?_⟩
    · simp only [Trigger.arrive, hx, hrun, Config.summaryRoom, hroom, if_true]
    · simp only [Trigger.arrive, hx, hrun, Config.summaryRoom, Nat.not_lt.mpr hfull, if_false]
    · simp only [Trigger.arrive, hx, hfrozen]
  · exact congrArg Host.Outcome.next ((on _).trans (takeNotice_first h _))
  · exact congrArg Host.Outcome.next ((on _).trans (takeNotice_first h _))
  · exact congrArg Host.Outcome.next ((on _).trans (takeNotice_first h _))

end Sys2Proof.Machine
end


section
/-! Proofs about the Capture Unit (chapter 7): one write, the filling, the record request, and the requests that arm,
stop and mark a capture. -/

namespace Sys2Proof.Machine

/-! ### One write -/

theorem serialAfter_eq (c : Count) : serialAfter c = if c = 4294967295 then 1 else c + 1 := by
  unfold serialAfter
  rfl

/-- The record placed in the next slot (R110, R112). -/
theorem Capture.slot_put {c : Capture} (hw : Cells.Wf none c.ring) (st : Stamp) (b : RecordBody) (i : Nat) :
    (c.put st b).slot i = if i = nextSlot c.wc then some ⟨c.nextSerial, st, b⟩ else c.slot i :=
  Cells.read_write hw _ _ _

theorem RecordWritten.of_put {c : Capture} (hw : Cells.Wf none c.ring) (st : Stamp) (b : RecordBody) {w : Capture}
    {rc u : Nat} {o : Count} (h : w = { c.put st b with rc := rc, unread := u, overwritten := o })
    (hroom : c.unread < 1022 → u = c.unread + 1 ∧ rc = c.rc ∧ o = c.overwritten)
    (hwrapped : ¬ c.unread < 1022 → u = c.unread ∧ rc = nextSlot c.rc ∧ o = bump c.overwritten) :
    RecordWritten c st b w := by
  subst h
  have slot : ∀ i, Capture.slot { c.put st b with rc := rc, unread := u, overwritten := o } i = (c.put st b).slot i :=
    fun _ => rfl
  refine ⟨?_, fun i hi => ?_, rfl, serialAfter_eq _, hroom, hwrapped, rfl, rfl, rfl, rfl, rfl, rfl⟩
  · rw [slot, Capture.slot_put hw, if_pos rfl]
  · rw [slot, Capture.slot_put hw, if_neg hi]

/-- A write that can be made is made as R117 says. -/
theorem Capture.write_written {c : Capture} (hw : Cells.Wf none c.ring) (hroom : c.unread < 1022 ∨ c.mode = .wrap)
    (st : Stamp) (b : RecordBody) : RecordWritten c st b (c.write st b) := by
  by_cases hu : c.unread < 1022
  · have write : c.write st b = { c.put st b with unread := c.unread + 1 } := if_pos hu
    exact .of_put hw st b write (fun _ => ⟨rfl, rfl, rfl⟩) fun h => absurd hu h
  · have hmode := hroom.resolve_left hu
    have write : c.write st b = { c.put st b with rc := nextSlot c.rc, overwritten := bump c.overwritten } := by
      refine (if_neg hu).trans ?_
      split
      · rfl
      · next hfill => exact absurd (hmode.symm.trans hfill) (by decide)
    exact .of_put hw st b write (fun h => absurd h hu) fun _ => ⟨rfl, rfl, rfl⟩

/-- In FILL with 1022 unread no write is made (R117; log entry 23). -/
theorem Capture.write_none {c : Capture} (hu : c.unread = 1022) (hm : c.mode = .fill) (st : Stamp) (b : RecordBody) :
    c.write st b = c := by
  refine (if_neg (by rw [hu]; decide)).trans ?_
  rw [hm]

/-- An ARMED capture in order has room for a write (R117, R118). -/
theorem CaptureOk.canWrite {c : Capture} (h : CaptureOk c) (ha : c.state = .armed) :
    c.unread < 1022 ∨ c.mode = .wrap := by
  cases hm : c.mode with
  | wrap => exact .inr rfl
  | fill => exact .inl (Nat.lt_of_le_of_lt (h.armedFill ha hm) (by decide))

/-! ### Filling -/

theorem Capture.fills_iff (c : Capture) : c.fills = true ↔ c.state = .armed ∧ c.mode = .fill ∧ c.unread = 1022 := by
  rw [Capture.fills, Bool.and_eq_true, Bool.and_eq_true, beq_iff_eq, beq_iff_eq, beq_iff_eq, and_assoc]
  rfl

theorem settleFull_fills {s : State} (h : s.capture.state = .armed ∧ s.capture.mode = .fill ∧ s.capture.unread = 1022) :
    settleFull s = (s.withCapture { s.capture with state := .full }).alerted 0b0000001#7 := by
  rw [settleFull, if_pos ((Capture.fills_iff _).mpr h), raise_alerted]

theorem settleFull_room {s : State} (h : s.capture.state ≠ .armed ∨ s.capture.mode ≠ .fill ∨ s.capture.unread ≠ 1022) :
    settleFull s = s :=
  if_neg fun hf => by
    obtain ⟨ha, hm, hu⟩ := (Capture.fills_iff _).mp hf
    simp [ha, hm, hu] at h

/-! ### A record request -/

theorem requestArrive_some {s : State} {q : RecordRequest} (h : s.trigger.handOff = some q) :
    requestArrive s = takeRequest q (s.withTrigger { s.trigger with handOff := none }) := by
  unfold requestArrive
  rw [h]

theorem takeRequest_idle {s : State} (h : s.capture.state = .idle ∨ s.capture.state = .stopped) (q : RecordRequest) :
    takeRequest q s = s := by
  unfold takeRequest
  rcases h with h | h <;> rw [h]

theorem takeRequest_full {s : State} (h : s.capture.state = .full) (q : RecordRequest) :
    takeRequest q s = s.withCapture { s.capture with missed := bump s.capture.missed } := by
  unfold takeRequest
  rw [h]

theorem takeRequest_armed {s : State} (h : s.capture.state = .armed) (q : RecordRequest) :
    takeRequest q s = if s.capture.limitReached then limitStop (s.withCapture (s.capture.writeFrame q))
      else settleFull (s.withCapture (s.capture.writeFrame q)) := by
  unfold takeRequest
  rw [h]

theorem Capture.limitReached_iff (c : Capture) :
    c.limitReached = true ↔ c.limit ≠ 0 ∧ c.limitCount + 1 = c.limit := by
  simp [Capture.limitReached, Nat.pos_iff_ne_zero]

/-- The stop by the record limit after a write, whatever the STOP record comes to (R121). -/
theorem limitStop_eq (s : State) : limitStop s =
    ((s.withTrigger { s.trigger with notices := s.trigger.notices ++ [.stop] }).withCapture
      { s.capture.write (stampNow s) (.stop .limit) with state := .stopped, stopReason := .limit }).alerted
        0b0000010#7 := by
  rw [limitStop, raise_alerted]
  rfl

/-- Settles O24: by the capture state; an ARMED capture in order always has room for the FRAME record. -/
theorem recordRequestByCaptureState : Obligations.RecordRequestByCaptureState := by
  intro s q hpow hhand hok hw c t
  have arrives : exec .recordRequestArrival s = .next (takeRequest q t) :=
    congrArg _ ((State.ifPowered_on hpow _).trans (requestArrive_some hhand))
  rw [arrives]
  refine ⟨fun h => congrArg _ (takeRequest_idle (s := t) h q), fun h => congrArg _ (takeRequest_full (s := t) h q),
    fun harmed => ?_⟩
  have written := Capture.write_written hw (hok.canWrite harmed) q.stamp q.body
  obtain ⟨hstate, hmode, -⟩ := written.rest
  refine ⟨c.write q.stamp q.body, written, ?_⟩
  intro counted reached filled stopped
  rw [takeRequest_armed (s := t) harmed]
  have hreached : c.limitReached = true ↔ reached := c.limitReached_iff
  have limited : reached → (if c.limitReached then limitStop (t.withCapture counted)
      else settleFull (t.withCapture counted)) = limitStop (t.withCapture counted) := fun h => if_pos (hreached.mpr h)
  have unlimited : ¬ reached → (if c.limitReached then limitStop (t.withCapture counted)
      else settleFull (t.withCapture counted)) = settleFull (t.withCapture counted) :=
    fun h => if_neg (hreached.not.mpr h)
  refine ⟨fun hr hf => congrArg Host.Outcome.next ((unlimited hr).trans (settleFull_room ?_)),
    fun hr hf => congrArg Host.Outcome.next ((unlimited hr).trans
      (settleFull_fills (s := t.withCapture counted) ⟨hstate.trans harmed, hmode.trans hf.1, hf.2⟩)),
    fun hr hf => congrArg Host.Outcome.next ((limited hr).trans ((limitStop_eq _).trans ?_)),
    fun hr hf => ⟨_, Capture.write_written (c := counted) (Capture.write_ring_wf hw _ _) ?_ _ _,
      congrArg Host.Outcome.next ((limited hr).trans (limitStop_eq _))⟩⟩
  · by_cases hm : counted.mode = .fill
    · exact .inr (.inr fun hu => hf ⟨hmode.symm.trans hm, hu⟩)
    · exact .inr (.inl hm)
  · have full : counted.write (stampNow (t.withCapture counted)) (.stop .limit) = counted :=
      Capture.write_none (c := counted) hf.2 (hmode.trans hf.1) _ _
    simp only [State.withCapture_capture, full, stopped]
    rfl
  · have hle := ((CaptureKept.mk hok False.elim).ring.write q.stamp q.body).unread_le
    cases hm : counted.mode with
    | wrap => exact .inr rfl
    | fill => exact .inl (Nat.lt_of_le_of_ne hle fun hu => hf ⟨hmode.symm.trans hm, hu⟩)

/-! ### Arming -/

theorem Capture.armRefusal_running {c : Capture} (h : ¬ (c.state = .idle ∨ c.state = .stopped)) :
    c.armRefusal = some .state := by
  refine if_pos ?_
  cases hs : c.state <;> simp_all

theorem Capture.canWrite_iff (c : Capture) : c.canWrite = true ↔ c.mode = .wrap ∨ c.unread < 1022 := by
  rw [Capture.canWrite, Bool.or_eq_true, decide_eq_true_iff, beq_iff_eq, or_comm]
  rfl

theorem Capture.armRefusal_still {c : Capture} (h : c.state = .idle ∨ c.state = .stopped) :
    c.armRefusal = if c.canWrite then none else some .full := by
  refine if_neg ?_
  rcases h with h | h <;> simp [h]

theorem carryArm_refused {s : State} {code : ResultCode} (d : Dispatch) (h : s.capture.armRefusal = some code) :
    carryArm d s = refuse d.request code s := by
  unfold carryArm
  rw [h]

theorem carryArm_ok {s : State} (d : Dispatch) (h : s.capture.armRefusal = none) :
    carryArm d s = okWith d.request (writtenBytes (some s.capture.nextWritten)) (armCapture d.request.limit s) := by
  unfold carryArm
  rw [h]
  rfl

/-- The accepted CAPTURE-ARM comes to what R122 and R118 say. -/
theorem armCapture_armedWith {s : State} (hw : Cells.Wf none s.capture.ring)
    (hroom : s.capture.mode = .wrap ∨ s.capture.unread < 1022) (limit : Nat) :
    ArmedWith limit s (armCapture limit s) := by
  have written := Capture.write_written (c := s.capture.arming limit) hw hroom.symm (stampNow s)
    (.start s.capture.mode limit)
  obtain ⟨hstate, hmode, -⟩ := written.rest
  refine ⟨_, written, fun hf => ?_, fun hroom => ?_⟩
  · rw [armCapture_eq]
    exact settleFull_fills ⟨hstate, hf⟩
  · rw [armCapture_eq]
    refine settleFull_room (.inr ?_)
    rcases hroom with hm | hu
    · exact .inl fun hf => absurd (hm.symm.trans hf) (by decide)
    · exact .inr (Nat.ne_of_lt hu)

theorem RecordWritten.wc_next {c w : Capture} {st : Stamp} {b : RecordBody} (h : RecordWritten c st b w) :
    w.wc = nextSlot c.wc := h.wc

theorem settleFull_wc (s : State) : (settleFull s).capture.wc = s.capture.wc := by
  rw [settleFull_capture]
  split <;> rfl

theorem exec_captureArm (s : State) : exec (.captureArm .owner) s
    = .next (s.ifPowered (requestEvent .captureArm .capture carryArm .owner)) := rfl

/-- Settles O25: by the refusals in their order; an accepted CAPTURE-ARM has room for its START record. -/
theorem captureArmWritesStart : Obligations.CaptureArmWritesStart := by
  intro s d hat hok hw c limit stopped
  refine ⟨fun hrun => ?running, fun hstill hfill hfull => ?full, fun hstill hroom => ?armed⟩
  case running =>
    exact (hat.exec_refused (exec_captureArm s) (carryArm_refused d (Capture.armRefusal_running hrun)) :)
  case full =>
    have refused : (s.took .capture).capture.armRefusal = some .full := by
      refine (Capture.armRefusal_still hstill).trans (if_neg ?_)
      rw [Capture.canWrite_iff]
      simp [c] at hfill hfull ⊢
      simp [hfill, hfull]
    exact (hat.exec_refused (exec_captureArm s) (carryArm_refused d refused) :)
  case armed =>
    have accepted : (s.took .capture).capture.armRefusal = none :=
      (Capture.armRefusal_still hstill).trans (if_pos ((Capture.canWrite_iff _).mpr hroom))
    have written := armCapture_armedWith (s := s.took .capture) hw hroom limit
    refine ⟨armCapture limit (s.took .capture), written, ?_⟩
    have wc : (armCapture limit (s.took .capture)).capture.wc = nextSlot c.wc := by
      rw [armCapture_eq, settleFull_wc]
      exact (Capture.write_written (c := (s.took .capture).capture.arming limit) hw hroom.symm _ _).wc_next
    rw [wc]
    exact (hat.exec_ok (exec_captureArm s) (carryArm_ok d accepted) :)

/-! ### Stopping -/

theorem stopWith_eq (reason : StopReason) (s : State) : stopWith reason s =
    (s.withTrigger { s.trigger with notices := s.trigger.notices ++ [.stop] }).withCapture
      { s.capture with state := .stopped, stopReason := reason } := rfl

theorem stopCapture_armed {s : State} (h : s.capture.state = .armed) (reason : StopReason) :
    stopCapture reason s = stopWith reason (s.withCapture (s.capture.write (stampNow s) (.stop reason))) := by
  unfold stopCapture
  rw [h]

theorem stopCapture_full {s : State} (h : s.capture.state = .full) (reason : StopReason) :
    stopCapture reason s = stopWith reason s := by
  unfold stopCapture
  rw [h]

theorem carryStop_refused {s : State} (d : Dispatch) (h : ¬ (s.capture.state = .armed ∨ s.capture.state = .full)) :
    carryStop d s = refuse d.request .state s := if_neg h

theorem carryStop_ok {s : State} (d : Dispatch) (h : s.capture.state = .armed ∨ s.capture.state = .full) :
    carryStop d s = okWith d.request (writtenBytes s.capture.stopWritten) (stopCapture .request s) := if_pos h

theorem exec_captureStop (s : State) : exec (.captureStop .owner) s
    = .next (s.ifPowered (requestEvent .captureStop .capture carryStop .owner)) := rfl

/-- Settles O26: by the capture state; an ARMED capture in order has room for the STOP record. -/
theorem captureStopWritesStop : Obligations.CaptureStopWritesStop := by
  intro s d hat hok hw c t stopped
  refine ⟨fun hstill => ?refused, fun hfull => ?full, fun harmed => ?armed⟩
  case refused =>
    have still : ¬ ((s.took .capture).capture.state = .armed ∨ (s.took .capture).capture.state = .full) := by
      rcases hstill with h | h <;> simp [State.took, c] at h ⊢ <;> simp [h]
    exact (hat.exec_refused (exec_captureStop s) (carryStop_refused d still) :)
  case full =>
    have unwritten : (s.took .capture).capture.stopWritten = none := if_neg fun h =>
      absurd (hfull.symm.trans h.1) (by decide)
    have ok := hat.exec_ok (exec_captureStop s) (carryStop_ok d (.inr hfull))
    rw [unwritten, stopCapture_full (s := s.took .capture) hfull, stopWith_eq] at ok
    exact ok
  case armed =>
    have room := hok.canWrite harmed
    have written := Capture.write_written hw room (stampNow s) (.stop .request)
    have slot : (s.took .capture).capture.stopWritten = some c.nextWritten :=
      if_pos ⟨harmed, (Capture.canWrite_iff _).mpr room.symm⟩
    have ok := hat.exec_ok (exec_captureStop s) (carryStop_ok d (.inl harmed))
    refine ⟨_, written, ?_⟩
    rw [slot, stopCapture_armed (s := s.took .capture) harmed, stopWith_eq] at ok
    rw [written.wc_next]
    exact ok

/-! ### Marking -/

theorem carryMark_refused {s : State} (d : Dispatch) (h : s.capture.state = .idle ∨ s.capture.state = .stopped) :
    carryMark d s = refuse d.request .notArmed s := by
  unfold carryMark
  rcases h with h | h <;> rw [h]

theorem carryMark_full {s : State} (d : Dispatch) (h : s.capture.state = .full) :
    carryMark d s = refuse d.request .full s := by
  unfold carryMark
  rw [h]

theorem carryMark_armed {s : State} (d : Dispatch) (h : s.capture.state = .armed) :
    carryMark d s = okWith d.request (writtenBytes (some s.capture.nextWritten)) (settleFull (s.withCapture
      (s.capture.write (stampNow s) (.mark d.request.source (d.request.payload.drop 1))))) := by
  unfold carryMark
  rw [h]
  rfl

theorem exec_captureMark (s : State) : exec (.captureMark .owner) s
    = .next (s.ifPowered (requestEvent .captureMark .capture carryMark .owner)) := rfl

/-- Settles O28: by the capture state, and by whether the MARK record fills the ring. -/
theorem captureMarkWritesMark : Obligations.CaptureMarkWritesMark := by
  intro s d hat hok hw c t
  refine ⟨fun hstill => ?refused, fun hfull => ?full, fun harmed => ?armed⟩
  case refused => exact (hat.exec_refused (exec_captureMark s) (carryMark_refused d hstill) :)
  case full => exact (hat.exec_refused (exec_captureMark s) (carryMark_full d hfull) :)
  case armed =>
    have written := Capture.write_written hw (hok.canWrite harmed) (stampNow s)
      (.mark d.request.source (d.request.payload.drop 1))
    obtain ⟨hstate, hmode, -⟩ := written.rest
    have ok := hat.exec_ok (exec_captureMark s) (carryMark_armed d harmed)
    refine ⟨_, written, ?_⟩
    intro reply
    have same : reply = [0x34, 0x00] ++ writtenBytes (some c.nextWritten) :=
      congrArg (fun n => [0x34, 0x00] ++ (bytesOf 2 n ++ bytesOf 4 c.nextSerial.toNat)) written.wc_next
    rw [same]
    refine ⟨fun hf => ?_, fun hroom => ?_⟩
    · rw [settleFull_fills ⟨hstate.trans harmed, hmode.trans hf.1, hf.2⟩] at ok
      exact ok
    · rw [settleFull_room (.inr ?_)] at ok
      · exact ok
      · rcases hroom with hm | hu
        · exact .inl fun hf => absurd (hm.symm.trans (hmode.symm.trans hf)) (by decide)
        · exact .inr (Nat.ne_of_lt hu)

end Sys2Proof.Machine
end


section
/-! Proofs about reading the capture (chapter 8): the layout of a record, the read-outs and SET-READ-CURSOR. -/

namespace Sys2Proof.Machine

/-! ### The layout of a record (11.3) -/

theorem ValueType.width_code (t : ValueType) : t.width = (t.code + 1) / 2 := by
  cases t <;> rfl

theorem valueBytes_flatMap (values : List (Option Value)) : valueBytes values = values.flatMap fun v => match v with
    | some v => bytesOf ((v.type.code + 1) / 2) (v.val % 2 ^ (8 * ((v.type.code + 1) / 2))).toNat
    | none => [] := by
  induction values with
  | nil => rfl
  | cons v rest ih =>
    rw [List.flatMap_cons, ← ih]
    cases v with
    | none => rfl
    | some v =>
      rw [valueBytes, Value.bytes, ValueType.width_code]

theorem firedBits_eq (fired : List Nat) : firedBits fired = (if 0 ∈ fired then 2 ^ 0 else 0)
    + (if 1 ∈ fired then 2 ^ 1 else 0) + (if 2 ∈ fired then 2 ^ 2 else 0) + (if 3 ∈ fired then 2 ^ 3 else 0) := by
  simp only [firedBits, List.map_cons, List.map_nil, List.sum_cons, List.sum_nil]
  omega

theorem Record.bytes_eq (r : Record) : r.bytes = [byteOf (r.body.code + if r.stamp.synced then 128 else 0)]
    ++ bytesOf 4 r.serial.toNat ++ bytesOf 6 r.stamp.time.toNat ++ r.body.bytes := by
  rw [Record.bytes, List.append_assoc, List.append_assoc]
  rfl

/-! ### The frames of a read-out -/

theorem Capture.advanceBy_iterate (k : Nat) : ∀ c : Capture,
    c.advanceBy k = { c with rc := nextSlot^[k] c.rc, unread := c.unread - k } := by
  induction k with
  | zero => exact fun c => rfl
  | succ k ih =>
    intro c
    rw [Capture.advanceBy, ih, Nat.add_comm k 1, ← Nat.sub_sub, Nat.add_comm 1 k]
    rfl

theorem Capture.deliveries_eq (r : Request) (count n : Nat) : ∀ c : Capture, n ≤ count →
    Capture.deliveries r count n c
      = (List.range n).map fun j => (c.advanceBy (j + 1)).delivery r (count - n + j + 1) count := by
  induction n with
  | zero => exact fun c _ => rfl
  | succ n ih =>
    intro c hn
    rw [Capture.deliveries, ih c.advance (by omega), List.range_succ_eq_map, List.map_cons, List.map_map]
    have first : count - n = count - (n + 1) + 0 + 1 := by omega
    refine congrArg₂ List.cons (by rw [← first]; rfl) (List.map_congr_left fun j _ => ?_)
    have place : count - n + j + 1 = count - (n + 1) + (j + 1) + 1 := by omega
    rw [place]
    rfl

theorem Capture.delivery_record {c : Capture} {x : Record} (h : c.slot c.rc = some x) (r : Request)
    (position count : Nat) : c.delivery r position count
      = r.codeByte :: ResultCode.ok.code :: (readHeader c.rc c.unread position count c.overwritten ++ x.bytes) := by
  simp only [Capture.delivery, h, replyPayload]

theorem Capture.delivery_empty {c : Capture} (h : c.slot c.rc = none) (r : Request) (position count : Nat) :
    c.delivery r position count
      = r.codeByte :: ResultCode.emptySlot.code :: readHeader c.rc c.unread position count c.overwritten := by
  simp only [Capture.delivery, h, replyPayload]

/-! ### The resume -/

theorem resume_resumed {s : State} (hw : Cells.Wf none s.capture.ring) : Resumed s (resume s) := by
  refine ⟨fun hfull hu => ?falls, fun hstays => if_neg fun h => ?stays⟩
  case falls =>
    have due : s.capture.resumes = true := (Capture.resumes_iff _).mpr ⟨hfull, hu⟩
    refine ⟨fun hm => ?_, fun hm => ⟨_, Capture.write_written (c := { s.capture with state := .armed }) hw
      (.inl (Nat.lt_of_le_of_lt hu (by decide))) (stampNow s) (.gap s.capture.missed), ?_⟩⟩
    · exact (if_pos due).trans (if_pos hm)
    · exact (if_pos due).trans (if_neg hm)
  case stays =>
    obtain ⟨hfull, hu⟩ := (Capture.resumes_iff _).mp h
    exact hstays.elim (· hfull) fun hlt => absurd hu (Nat.not_le.mpr hlt)

/-! ### READ-NEXT and READ-BLOCK -/

theorem carryReadNext_none {s : State} (d : Dispatch) (h : s.capture.unread = 0) :
    carryReadNext d s = (s, [s.capture.noNew d.request]) := if_pos h

theorem carryReadNext_some {s : State} (d : Dispatch) (h : s.capture.unread ≠ 0) :
    carryReadNext d s = (readOut 1 s, Capture.deliveries d.request 1 1 s.capture) := if_neg h

theorem carryReadBlock_range {d : Dispatch} (s : State) (h : d.request.field 1 = 0 ∨ 16 < d.request.field 1) :
    carryReadBlock d s = refuse d.request .range s := if_pos h

theorem carryReadBlock_none {d : Dispatch} {s : State} (h : ¬ (d.request.field 1 = 0 ∨ 16 < d.request.field 1))
    (hu : s.capture.unread = 0) : carryReadBlock d s = (s, [s.capture.noNew d.request]) :=
  (if_neg h).trans (if_pos hu)

/-- What a READ-BLOCK delivers: the least of the four numbers of R136. -/
def blockOf (d : Dispatch) (s : State) : Nat :=
  blockSize (d.request.field 1) s.agent.profile.blockLimit s.capture.unread d.held

theorem carryReadBlock_some {d : Dispatch} {s : State} (h : ¬ (d.request.field 1 = 0 ∨ 16 < d.request.field 1))
    (hu : s.capture.unread ≠ 0) :
    carryReadBlock d s = (readOut (blockOf d s) s, Capture.deliveries d.request (blockOf d s) (blockOf d s) s.capture) :=
  (if_neg h).trans (if_neg hu)

theorem exec_readNext (s : State) : exec (.readNext .owner) s
    = .next (s.ifPowered (requestEvent .readNext .capture carryReadNext .owner)) := rfl

theorem exec_readBlock (s : State) : exec (.readBlock .owner) s
    = .next (s.ifPowered (requestEvent .readBlock .capture carryReadBlock .owner)) := rfl

/-- Settles O29: the layout from the encodings of 11.3, the read-outs from `k` cursor reads and the resume. -/
theorem cursorReadsDeliverInOrder : Obligations.CursorReadsDeliverInOrder := by
  refine ⟨bytesOf_eq, fun r => ?layout, fun s d hw => ?reads⟩
  case layout =>
    intro synced type width shown whole
    have types : type = fun v => v.type.code := funext fun v => by
      dsimp only [type]
      cases v.type <;> rfl
    clear_value type
    subst types
    rw [Record.bytes_eq]
    cases r.body with
    | start mode limit => cases mode <;> rfl
    | stop reason => cases reason <;> rfl
    | frame cls cause fired source seq values =>
      have body : (RecordBody.frame cls cause fired source seq values).bytes =
          [byteOf cls, byteOf (16 * cause + firedBits fired), source, seq, byteOf values.length]
            ++ typeBytes values ++ values.flatMap shown :=
        congrArg (_ ++ typeBytes values ++ ·) (valueBytes_flatMap values)
      rw [body, firedBits_eq]
      rfl
    | mark requester text => rfl
    | gap missed => rfl
  case reads =>
    intro c frames noNew moved
    have delivered : ∀ (k : ReqKind) (n : Nat), d.request.codeByte = k.code →
        Capture.deliveries d.request n n (s.took .capture).capture = frames k.code n := by
      intro k n hcode
      change Capture.deliveries d.request n n c = _
      rw [Capture.deliveries_eq _ _ _ _ (Nat.le_refl n)]
      refine List.map_congr_left fun j _ => ?_
      rw [Capture.advanceBy_iterate, Nat.sub_self, Nat.zero_add]
      have same (i : Nat) : Capture.slot { c with rc := nextSlot^[j + 1] c.rc, unread := c.unread - (j + 1) } i
          = c.slot i := rfl
      cases hslot : c.slot (nextSlot^[j + 1] c.rc) with
      | none =>
        rw [Capture.delivery_empty ((same _).trans hslot), hcode]
        simp only [hslot]
        rfl
      | some x =>
        rw [Capture.delivery_record ((same _).trans hslot), hcode]
        simp only [hslot]
        rfl
    have read : ∀ n : Nat, readOut n (s.took .capture) = resume (moved n) := fun n =>
      congrArg (fun c' => resume ((s.took .capture).withCapture c')) (Capture.advanceBy_iterate n c)
    refine ⟨fun hat => ⟨fun hnone => ?noNew, fun hsome => ?next⟩, fun hat => ?block⟩
    case noNew => exact (hat.exec_reply (exec_readNext s) (carryReadNext_none d hnone) :)
    case next =>
      refine ⟨resume (moved 1), resume_resumed hw, ?_⟩
      rw [exec_readNext, hat.event, carryReadNext_some (s := s.took .capture) d hsome, read,
        delivered .readNext 1 hat.codeByte]
      rfl
    case block =>
      intro n k
      refine ⟨fun hout => ?_, fun hlow hhigh hnone => ?_, fun hlow hhigh hsome => ?_⟩
      · exact (hat.exec_refused (exec_readBlock s) (carryReadBlock_range _ hout) :)
      · exact (hat.exec_reply (exec_readBlock s) (carryReadBlock_none (by omega) hnone) :)
      · refine ⟨resume (moved k), resume_resumed hw, ?_⟩
        rw [exec_readBlock, hat.event, carryReadBlock_some (s := s.took .capture) (by omega) hsome, read,
          delivered .readBlock _ hat.codeByte]
        rfl

/-! ### SET-READ-CURSOR -/

/-- `v` steps from a slot of the ring lead around its 1023 slots (R109). -/
theorem nextSlot_iterate {i : Nat} (hlow : 1 ≤ i) (hhigh : i ≤ 1023) (v : Nat) :
    nextSlot^[v] i = (i - 1 + v) % 1023 + 1 := by
  induction v with
  | zero => rw [Function.iterate_zero_apply]; omega
  | succ v ih => rw [Function.iterate_succ_apply', ih, nextSlot_eq]; split <;> omega

/-- The first step from slot 0 leads to slot 1 (R109). -/
theorem nextSlot_iterate_zero (v : Nat) : nextSlot^[v + 1] 0 = v % 1023 + 1 := by
  rw [Function.iterate_succ_apply]
  refine (nextSlot_iterate (i := 1) (by decide) (by decide) v).trans ?_
  rw [Nat.sub_self, Nat.zero_add]

/-- The count of R142 is the number of steps, at most 1022, that lead to the write cursor. -/
theorem stepsTo_iff {i wc : Nat} (hi : i ≤ 1023) (hw : wc ≤ 1023) (u : Nat) :
    stepsTo i wc = some u ↔ u ≤ 1022 ∧ nextSlot^[u] i = wc := by
  unfold stepsTo Config.unreadMax Config.lastSlot
  by_cases h0 : i = 0
  · subst h0
    cases u with
    | zero => rw [Function.iterate_zero_apply]; grind
    | succ u => rw [nextSlot_iterate_zero]; grind
  · rw [nextSlot_iterate (by omega) hi]
    grind

theorem carrySetCursor_range {d : Dispatch} {s : State}
    (h : 1023 < d.request.field2 1 ∨ stepsTo (d.request.field2 1) s.capture.wc = none) :
    carrySetCursor d s = refuse d.request .range s := by
  unfold carrySetCursor
  dsimp only
  split
  · rfl
  · next hin => rw [h.resolve_left hin]

/-- The reply to a SET-READ-CURSOR that leaves `t` (11.2). -/
def cursorReply (t : State) (gap : List Byte) : List Byte :=
  bytesOf 2 t.capture.rc ++ bytesOf 2 t.capture.wc ++ bytesOf 2 t.capture.unread ++ [t.capture.state.code] ++ gap

theorem carrySetCursor_ok {d : Dispatch} {s : State} {u : Nat} (hin : d.request.field2 1 ≤ 1023)
    (h : stepsTo (d.request.field2 1) s.capture.wc = some u) : carrySetCursor d s = okWith d.request
      (cursorReply (setCursor (d.request.field2 1) u s) (writtenBytes (s.capture.cursorGap (d.request.field2 1) u)))
      (setCursor (d.request.field2 1) u s) := by
  unfold carrySetCursor
  dsimp only
  rw [if_neg (show ¬ Config.lastSlot < _ from Nat.not_lt.mpr hin), h]
  rfl

theorem Capture.cursorGap_none {c : Capture} {i u : Nat} (h : ¬ (c.state = .full ∧ u ≤ 1006 ∧ c.missed ≠ 0)) :
    c.cursorGap i u = none := by
  refine if_neg fun hgap => h ?_
  obtain ⟨hfull, hu⟩ := (Capture.resumes_iff _).mp hgap.1
  exact ⟨hfull, hu, hgap.2⟩

theorem Capture.cursorGap_some {c : Capture} {i u : Nat} (hfull : c.state = .full) (hu : u ≤ 1006)
    (hm : c.missed ≠ 0) : c.cursorGap i u = some c.nextWritten :=
  if_pos ⟨(Capture.resumes_iff _).mpr ⟨hfull, hu⟩, hm⟩

/-- The write cursor where a GAP record is written as the capture resumes (R120). -/
theorem setCursor_gap_wc {s : State} {i u : Nat} (hw : Cells.Wf none s.capture.ring) (hfull : s.capture.state = .full)
    (hu : u ≤ 1006) (hm : s.capture.missed ≠ 0) : (setCursor i u s).capture.wc = nextSlot s.capture.wc := by
  have resumes : setCursor i u s = resume (s.withCapture { s.capture with rc := i, unread := u }) :=
    if_neg (by rw [hfull]; decide)
  obtain ⟨falls, -⟩ := resume_resumed (s := s.withCapture { s.capture with rc := i, unread := u }) hw
  obtain ⟨w, written, hresume⟩ := (falls hfull hu).2 hm
  rw [resumes, hresume]
  exact written.wc_next

theorem exec_setReadCursor (s : State) : exec (.setReadCursor .owner) s
    = .next (s.ifPowered (requestEvent .setReadCursor .capture carrySetCursor .owner)) := rfl

/-- Settles O31: by whether the write cursor is reached, and by what the new unread count brings. -/
theorem setReadCursorCountsSteps : Obligations.SetReadCursorCountsSteps := by
  intro s d hat hok hw c i reached moved
  have steps_iff : i ≤ 1023 → ∀ u, stepsTo i c.wc = some u ↔ u ≤ 1022 ∧ nextSlot^[u] i = c.wc :=
    fun hi => stepsTo_iff hi hok.wcRange
  have reached_of : i ≤ 1023 → ∀ u, stepsTo i c.wc = some u → reached u := by
    intro hi u hu
    obtain ⟨hmax, hsteps⟩ := (steps_iff hi u).mp hu
    refine ⟨hmax, hsteps, fun v hv heq => ?_⟩
    have same := hu.symm.trans ((steps_iff hi v).mpr ⟨by omega, heq⟩)
    exact absurd (Option.some.inj same) (by omega)
  refine ⟨fun hout => ?refused, fun u hi hreached => ?moved⟩
  case refused =>
    have unreached : 1023 < i ∨ stepsTo i c.wc = none := by
      refine (Nat.lt_or_ge 1023 i).imp_right fun hi => ?_
      have never := hout.resolve_left (Nat.not_lt.mpr hi)
      exact Option.eq_none_iff_forall_ne_some.mpr fun u hu => never u (reached_of hi u hu)
    exact (hat.exec_refused (exec_setReadCursor s) (carrySetCursor_range unreached) :)
  case moved =>
    obtain ⟨hmax, hsteps, -⟩ := hreached
    have ok := hat.exec_ok (exec_setReadCursor s)
      (carrySetCursor_ok (s := s.took .capture) hi ((steps_iff hi u).mpr ⟨hmax, hsteps⟩))
    intro reply
    refine ⟨fun harmed hfill hu => ?filled, fun hfits => ?stays⟩
    case filled =>
      have noGap := Capture.cursorGap_none (c := c) (i := i) (u := u) fun h => absurd (harmed.symm.trans h.1) (by decide)
      have full : setCursor i u (s.took .capture) = settleFull (moved u) := if_pos harmed
      rw [settleFull_fills (s := moved u) ⟨harmed, hfill, hu⟩] at full
      rw [ok]
      exact congrArg₂ (fun t gap => Host.Outcome.next (t.answers d (reply t gap))) full (congrArg writtenBytes noGap)
    case stays =>
      refine ⟨setCursor i u (s.took .capture), ?_, ok.trans ?_⟩
      · by_cases harmed : c.state = .armed
        · have still : setCursor i u (s.took .capture) = moved u :=
            (if_pos harmed).trans (settleFull_room (s := moved u) (by simpa [imp_iff_not_or, moved, harmed] using hfits))
          rw [still]
          exact ⟨fun hfull => absurd (harmed.symm.trans hfull) (by decide), fun _ => rfl⟩
        · have resumes : setCursor i u (s.took .capture) = resume (moved u) := if_neg harmed
          rw [resumes]
          exact resume_resumed hw
      · refine congrArg (fun gap => Host.Outcome.next (State.answers _ d (reply _ gap))) ?_
        split
        · next h =>
          obtain ⟨hfull, hu, hm⟩ := h
          exact (congrArg writtenBytes (Capture.cursorGap_some (c := c) hfull hu hm)).trans
            (congrArg (bytesOf 2 · ++ bytesOf 4 c.nextSerial.toNat)
              (setCursor_gap_wc (s := s.took .capture) hw hfull hu hm).symm)
        · next h => exact congrArg writtenBytes (Capture.cursorGap_none (c := c) h)

end Sys2Proof.Machine
end


section
/-! Proofs about the Table Store (chapter 9): the checks of R158, the acceptances, the ends of an operation, the
status and the phases. -/

namespace Sys2Proof.Machine

/-! ### The checks of R158 and the operation's own -/

/-- The checks of R158 at the store, as the model makes them after the request is taken. -/
theorem storeRefusal_eq (s : State) (r : Request) (own : Option Byte) : storeRefusal s r own
    = ((operationRefusal r.source (r.field 1) (s.took .store)).map ResultCode.code).or own := by
  have session : (s.took .store).agent.ownedBy r.source = true ↔ s.agent.session.map (·.owner) = some r.source :=
    s.took_ownedBy_iff .store _
  have store : (s.took .store).store = s.store := rfl
  unfold storeRefusal operationRefusal
  rw [store]
  by_cases howns : s.agent.session.map (·.owner) = some r.source
  · rw [if_neg (not_not_intro howns), session.mpr howns]
    cases s.store.guard with
    | false => rfl
    | true => simp only [Bool.not_true, Bool.false_eq_true, if_false, reduceCtorEq]; split_ifs <;> rfl
  · rw [if_pos howns, Bool.eq_false_iff.mpr (mt session.mp howns)]
    rfl

section Operation

variable {s : State} {d : Dispatch} {k : ReqKind} {c : Instr} {op : OpKind}
  {refusal : Request → State → Option ResultCode} {accept : Request → State → State}

/-- What the store still says of an accepted operation: operation, page, page byte, erase count and duration. -/
def acceptedContents (r : Request) (op : OpKind) (t : Store) : List Byte :=
  [op.code, byteOf (r.field 1), t.pageByte (r.field 1)] ++ wordBytes (t.erases (r.field 1)) ++ [byteOf op.millis]

/-- An operation refused at the store: the first check that fails is answered. -/
theorem AtOwner.operation_refused (h : AtOwner s .store k d)
    (he : exec c s = .next (s.ifPowered (requestEvent k .store (carryOperation op refusal accept) .owner))) {x : Byte}
    (hx : storeRefusal s d.request ((refusal d.request (s.took .store)).map ResultCode.code) = some x) :
    exec c s = .next ((s.took .store).answers d [k.code, x]) := by
  rw [storeRefusal_eq] at hx
  cases hop : operationRefusal d.request.source (d.request.field 1) (s.took .store) with
  | some code =>
    rw [hop] at hx
    cases hx
    exact h.exec_refused he (carryOperation_refused (.inl hop))
  | none =>
    rw [hop] at hx
    obtain ⟨code, href, rfl⟩ := Option.map_eq_some_iff.mp hx
    exact h.exec_refused he (carryOperation_refused (.inr ⟨hop, href⟩))

/-- An operation accepted at the store passed its own check, and is answered with what the store then says. -/
theorem AtOwner.operation_accepted (h : AtOwner s .store k d)
    (he : exec c s = .next (s.ifPowered (requestEvent k .store (carryOperation op refusal accept) .owner)))
    (hx : storeRefusal s d.request ((refusal d.request (s.took .store)).map ResultCode.code) = none) :
    refusal d.request (s.took .store) = none ∧
      exec c s = .next ((accept d.request (s.took .store)).answers d (k.code :: ResultCode.ok.code
        :: acceptedContents d.request op (accept d.request (s.took .store)).store)) := by
  rw [storeRefusal_eq, Option.or_eq_none_iff, Option.map_eq_none_iff, Option.map_eq_none_iff] at hx
  obtain ⟨hop, href⟩ := hx
  refine ⟨href, h.exec_ok he (contents := acceptedContents _ _ _) ?_⟩
  unfold carryOperation
  dsimp only
  rw [hop, href]
  rfl

end Operation

/-! ### Acceptance -/

/-- The acceptance of an operation that erases (R150, R151, R153). -/
theorem EraseBegun.condemn {t : Store} (h : t.TablesWf) {k : OpKind} (hk : k.firstPhase = .erasing) (p : Nat)
    (source : Option Nat) : EraseBegun t k p source ((t.condemn p).begin k p source) := by
  obtain ⟨-, -, counts, -⟩ := id h
  refine ⟨?_, fun q => Store.state_condemn h p q, fun q => ?_, rfl, rfl, rfl, rfl, rfl⟩
  · rw [Store.begin, hk]
    rfl
  · refine (Cells.read_write counts p q _).trans ?_
    unfold bumpErase
    change (if q = p then _ else t.erases q) = _
    by_cases hq : q = p
    · subst hq
      by_cases hmax : t.erases q = 65535 <;> simp [hmax]
    · simp [hq]

/-- The page byte of a page just condemned: INVALID, with its lock flag (R150, 11.4). -/
theorem EraseBegun.pageByte {t x : Store} {k : OpKind} {p : Nat} {source : Option Nat} (h : EraseBegun t k p source x) :
    x.pageByte p = if t.isLocked p then 0x82 else 0x02 := by
  have state : x.state p = .invalid := (h.state p).trans (if_pos rfl)
  have locked : x.isLocked p = t.isLocked p := congrArg (Cells.read false · p) h.rest.2.1
  rw [Store.pageByte, state, locked]
  cases t.isLocked p <;> rfl

theorem PinSet.setPin {x : Resolver} (h : Cells.Wf false x.pins) (t : Nat) (b : Bool) :
    PinSet x (some t) b (x.setPin t b) :=
  ⟨fun u => (Resolver.pinned_setPin h t u b).trans (if_congr (by rw [Option.some.injEq, eq_comm]) rfl rfl), rfl, rfl⟩

theorem PinSet.unpin {x : Resolver} (h : Cells.Wf false x.pins) (source : Option Nat) :
    PinSet x source false (x.unpin source) :=
  ⟨Resolver.pinned_unpin h source, by cases source <;> exact ⟨rfl, rfl⟩⟩

/-! ### STORE-PROGRAM -/

theorem Request.field2_lt (r : Request) (i : Nat) : r.field2 i < 65536 := by
  have h1 := (r.payload.getD i 0).isLt
  have h2 := (r.payload.getD (i + 1) 0).isLt
  unfold Request.field2 Request.field
  omega

theorem Resolver.pageCheck_eq (x : Resolver) (t : Nat) :
    x.pageCheck t = crc16 ((List.range 256).flatMap fun i => wordBytes (x.word t i)) := by
  rw [Resolver.pageCheck, wholePage, wordsBytes_wordsFrom]
  simp only [Nat.zero_add]
  rfl

theorem programRefusal_code (r : Request) (s : State) : (programRefusal r s).map ResultCode.code
    = if 3 < r.field 2 then some 0x05 else if s.store.isLocked (r.field 1) then some 0x0D
      else if (s.resolver.pageCheck (r.field 2)).toNat ≠ r.field2 3 then some 0x10 else none := by
  have check : s.resolver.pageCheck (r.field 2) ≠ BitVec.ofNat 16 (r.field2 3)
      ↔ (s.resolver.pageCheck (r.field 2)).toNat ≠ r.field2 3 := by
    rw [ne_eq, ← BitVec.toNat_inj, BitVec.toNat_ofNat, Nat.mod_eq_of_lt (r.field2_lt 3)]
  unfold programRefusal
  simp only [check]
  split_ifs <;> rfl

theorem programRefusal_none {r : Request} {s : State} (h : programRefusal r s = none) :
    s.store.isLocked (r.field 1) = false := by
  unfold programRefusal at h
  split_ifs at h with _ hl
  exact Bool.eq_false_iff.mpr hl

theorem exec_storeProgram (s : State) : exec (.storeProgram .owner) s = .next (s.ifPowered (requestEvent
    .storeProgram .store (carryOperation .program programRefusal acceptProgram) .owner)) := rfl

/-- Settles O32: by the checks of R158 and R159. -/
theorem storeProgramAcceptance : Obligations.StoreProgramAcceptance := by
  intro s d hat htables p t bytes refusal
  have same : refusal = storeRefusal s d.request
      ((programRefusal d.request (s.took .store)).map ResultCode.code) := by
    rw [programRefusal_code, Resolver.pageCheck_eq]
    rfl
  refine ⟨fun c hc => ?refused, fun hc => ?accepted⟩
  case refused => exact hat.operation_refused (exec_storeProgram s) (same.symm.trans hc)
  case accepted =>
    obtain ⟨passed, ok⟩ := hat.operation_accepted (exec_storeProgram s) (same.symm.trans hc)
    have begun := EraseBegun.condemn (k := .program) htables.storeWf rfl p (some t)
    have pageByte := begun.pageByte
    rw [show s.store.isLocked p = false from programRefusal_none passed] at pageByte
    refine ⟨_, _, begun, PinSet.setPin htables.pins t true, ok.trans ?_⟩
    have contents : acceptedContents d.request .program ((s.store.condemn p).begin .program p (some t))
        = [0x01, byteOf p, 0x02] ++ wordBytes (((s.store.condemn p).begin .program p (some t)).erases p) ++ [15] := by
      rw [acceptedContents, pageByte]
      rfl
    exact congrArg (fun bs => Host.Outcome.next (State.answers _ d (0x20 :: 0x00 :: bs))) contents

/-! ### STORE-ERASE, STORE-UNLOCK-ERASE and STORE-LOCK -/

theorem eraseRefusal_code (r : Request) (s : State) : (eraseRefusal r s).map ResultCode.code
    = if s.store.isLocked (r.field 1) then some 0x0D else none := by
  unfold eraseRefusal
  split_ifs <;> rfl

theorem eraseRefusal_none {r : Request} {s : State} (h : eraseRefusal r s = none) :
    s.store.isLocked (r.field 1) = false := by
  unfold eraseRefusal at h
  split_ifs at h with hl
  exact Bool.eq_false_iff.mpr hl

theorem Agent.overriding_iff (a : Agent) : a.overriding = true ↔ a.session.map (·.override) = some true := by
  unfold Agent.overriding
  cases a.session <;> simp

theorem unlockRefusal_code (r : Request) (s : State) : (unlockRefusal r s).map ResultCode.code
    = if s.agent.session.map (·.override) ≠ some true then some 0x09
      else if s.store.isLocked (r.field 1) = false then some 0x0E else none := by
  unfold unlockRefusal
  simp only [ne_eq, ← Agent.overriding_iff, Bool.not_eq_true', Bool.not_eq_true]
  split_ifs <;> rfl

theorem unlockRefusal_none {r : Request} {s : State} (h : unlockRefusal r s = none) :
    s.store.isLocked (r.field 1) = true := by
  unfold unlockRefusal at h
  split_ifs at h with _ hl
  simpa using hl

theorem lockRefusal_code (r : Request) (s : State) : (lockRefusal r s).map ResultCode.code
    = if s.store.isLocked (r.field 1) then some 0x0D
      else if s.store.state (r.field 1) = .invalid then some 0x12 else none := by
  unfold lockRefusal
  split_ifs <;> rfl

theorem lockRefusal_none {r : Request} {s : State} (h : lockRefusal r s = none) :
    s.store.isLocked (r.field 1) = false ∧ s.store.state (r.field 1) ≠ .invalid := by
  unfold lockRefusal at h
  split_ifs at h with hl hi
  exact ⟨Bool.eq_false_iff.mpr hl, hi⟩

theorem exec_storeErase (s : State) : exec (.storeErase .owner) s = .next (s.ifPowered (requestEvent
    .storeErase .store (carryOperation .erase eraseRefusal acceptErase) .owner)) := rfl

theorem exec_storeUnlockErase (s : State) : exec (.storeUnlockErase .owner) s = .next (s.ifPowered (requestEvent
    .storeUnlockErase .store (carryOperation .unlockErase unlockRefusal acceptUnlock) .owner)) := rfl

theorem exec_storeLock (s : State) : exec (.storeLock .owner) s = .next (s.ifPowered (requestEvent
    .storeLock .store (carryOperation .lock lockRefusal acceptLock) .owner)) := rfl

/-- Settles O33: by the checks of R158, R161 and R163. -/
theorem storeEraseAcceptance : Obligations.StoreEraseAcceptance := by
  intro s d htables p t
  refine ⟨fun hat => ?erase, fun hat => ?unlock⟩
  case erase =>
    intro refusal
    have same : refusal = storeRefusal s d.request ((eraseRefusal d.request t).map ResultCode.code) := by
      rw [eraseRefusal_code]
      rfl
    refine ⟨fun c hc => hat.operation_refused (exec_storeErase s) (same.symm.trans hc), fun hc => ?_⟩
    obtain ⟨passed, ok⟩ := hat.operation_accepted (exec_storeErase s) (same.symm.trans hc)
    have begun := EraseBegun.condemn (k := .erase) htables.storeWf rfl p none
    have pageByte := begun.pageByte
    rw [show s.store.isLocked p = false from eraseRefusal_none passed] at pageByte
    refine ⟨_, begun, ok.trans ?_⟩
    have contents : acceptedContents d.request .erase ((s.store.condemn p).begin .erase p none)
        = [0x02, byteOf p, 0x02] ++ wordBytes (((s.store.condemn p).begin .erase p none).erases p) ++ [8] := by
      rw [acceptedContents, pageByte]
      rfl
    exact congrArg (fun bs => Host.Outcome.next (State.answers _ d (0x21 :: 0x00 :: bs))) contents
  case unlock =>
    intro refusal
    have same : refusal = storeRefusal s d.request ((unlockRefusal d.request t).map ResultCode.code) := by
      rw [unlockRefusal_code]
      rfl
    refine ⟨fun c hc => hat.operation_refused (exec_storeUnlockErase s) (same.symm.trans hc), fun hc => ?_⟩
    obtain ⟨passed, ok⟩ := hat.operation_accepted (exec_storeUnlockErase s) (same.symm.trans hc)
    have begun := EraseBegun.condemn (k := .unlockErase) htables.storeWf rfl p none
    have pageByte := begun.pageByte
    rw [show s.store.isLocked p = true from unlockRefusal_none passed] at pageByte
    refine ⟨_, begun, ok.trans ?_⟩
    have contents : acceptedContents d.request .unlockErase ((s.store.condemn p).begin .unlockErase p none)
        = [0x03, byteOf p, 0x82] ++ wordBytes (((s.store.condemn p).begin .unlockErase p none).erases p) ++ [8] := by
      rw [acceptedContents, pageByte]
      rfl
    exact congrArg (fun bs => Host.Outcome.next (State.answers _ d (0x23 :: 0x00 :: bs))) contents

/-- The page byte of a page that may be locked: unlocked, and not INVALID (11.4). -/
theorem Store.pageByte_lockable {t : Store} {p : Nat} (hl : t.isLocked p = false) (hi : t.state p ≠ .invalid) :
    t.pageByte p = if t.state p = .valid then 0x01 else 0x00 := by
  rw [Store.pageByte, hl]
  cases hs : t.state p with
  | erased => rfl
  | valid => rfl
  | invalid => exact absurd hs hi

/-- Settles O34: by the checks of R158 and R162. -/
theorem storeLockAcceptance : Obligations.StoreLockAcceptance := by
  intro s d hat p refusal
  have same : refusal = storeRefusal s d.request
      ((lockRefusal d.request (s.took .store)).map ResultCode.code) := by
    rw [lockRefusal_code]
    rfl
  refine ⟨fun c hc => hat.operation_refused (exec_storeLock s) (same.symm.trans hc), fun hc => ?_⟩
  obtain ⟨passed, ok⟩ := hat.operation_accepted (exec_storeLock s) (same.symm.trans hc)
  obtain ⟨hl, hi⟩ := lockRefusal_none passed
  have contents : acceptedContents d.request .lock (s.store.begin .lock p none)
      = [0x04, byteOf p, if s.store.state p = .valid then 0x01 else 0x00] ++ wordBytes (s.store.erases p) ++ [2] := by
    rw [acceptedContents, show (s.store.begin .lock p none).pageByte p = _ from Store.pageByte_lockable hl hi]
    rfl
  exact ok.trans (congrArg (fun bs => Host.Outcome.next (State.answers _ d (0x22 :: 0x00 :: bs))) contents)

/-! ### STORE-ABORT and STORE_GUARD -/

theorem carryAbort_noSession {d : Dispatch} {s : State} (h : ¬ s.agent.ownedBy d.request.source = true) :
    carryAbort d s = refuse d.request .noSession s := by
  simp [carryAbort, h]

theorem carryAbort_idle {d : Dispatch} {s : State} (howned : s.agent.ownedBy d.request.source = true)
    (h : s.store.engine = none) : carryAbort d s = refuse d.request .idle s := by
  simp [carryAbort, howned, h]

theorem carryAbort_ok {d : Dispatch} {s : State} {o : Operation} (howned : s.agent.ownedBy d.request.source = true)
    (h : s.store.engine = some o) : carryAbort d s
      = okWith d.request [o.kind.code, byteOf o.page, o.phase.code] (endOperation o .aborted s) := by
  simp [carryAbort, howned, h]

theorem exec_storeAbort (s : State) : exec (.storeAbort .owner) s
    = .next (s.ifPowered (requestEvent .storeAbort .store carryAbort .owner)) := rfl

theorem exec_storeGuardFall {s : State} (h : s.powered = true) : exec .storeGuardFall s = .next (guardFalls s) :=
  congrArg Host.Outcome.next (State.ifPowered_on h _)

theorem exec_storeGuardRise {s : State} (h : s.powered = true) : exec .storeGuardRise s = .next (guardRises s) :=
  congrArg Host.Outcome.next (State.ifPowered_on h _)

theorem guardFalls_ready {s : State} (h : s.store.engine = none) :
    guardFalls s = s.withStore { s.store with guard := false } := by
  unfold guardFalls
  dsimp only
  rw [h]

theorem guardFalls_busy {s : State} {o : Operation} (h : s.store.engine = some o) : guardFalls s
    = (endOperation o .guardLost (s.withStore { s.store with guard := false })).alerted 0b0001000#7 := by
  unfold guardFalls
  dsimp only
  rw [h]
  exact raise_alerted _ _

/-- Settles O35: by the session and the engine; the end of an operation clears the pin of its source. -/
theorem storeAbortAndGuard : Obligations.StoreAbortAndGuard := by
  intro s hpins
  refine ⟨fun d hat => ?abort, fun hpow => ⟨fun hready => ?_, fun o ho => ?_, exec_storeGuardRise hpow⟩⟩
  case abort =>
    intro t owns
    have session : t.agent.ownedBy d.request.source = true ↔ owns := s.took_ownedBy_iff .store _
    refine ⟨fun hother => ?_, fun howns hready => ?_, fun o howns ho => ⟨_, PinSet.unpin hpins o.source, ?_⟩⟩
    · exact (hat.exec_refused (exec_storeAbort s) (carryAbort_noSession (s := t) (mt session.mp hother)) :)
    · exact (hat.exec_refused (exec_storeAbort s) (carryAbort_idle (s := t) (session.mpr howns) hready) :)
    · exact (hat.exec_ok (exec_storeAbort s) (carryAbort_ok (s := t) (session.mpr howns) ho) :)
  · rw [exec_storeGuardFall hpow, guardFalls_ready hready]
  · refine ⟨_, PinSet.unpin hpins o.source, ?_⟩
    rw [exec_storeGuardFall hpow, guardFalls_busy ho]
    rfl

/-! ### STORE-STATUS -/

theorem exec_storeStatus (s : State) : exec (.storeStatus .owner) s
    = .next (s.ifPowered (requestEvent .storeStatus .store carryStoreStatus .owner)) := rfl

theorem freeBytesNow_length (s : State) (n : Nat) : (freeBytesNow s n).length = n := by
  rw [freeBytesNow, List.length_map, List.length_range]

/-- The last-result fields take 11 bytes, free ones where there is no last result (11.5). -/
theorem lastBytes_length {free : List Byte} {last : Option LastResult} (h : free.length = lastDraws last) :
    (lastBytes free last).length = 11 := by
  cases last with
  | none => simp [lastBytes, h, lastDraws]
  | some l => simp [lastBytes, bytesOf_eq]

theorem lastBytes_none {free : List Byte} (h : free.length = 9) :
    (lastBytes free none).getD 0 0 = 0 ∧ (lastBytes free none).getD 2 0 = 255 := by
  cases free with
  | nil => cases h
  | cons a rest => exact ⟨rfl, rfl⟩

theorem pageNumByte_eq (n : Option Nat) : pageNumByte n = match n with | some t => byteOf t | none => 255 := by
  cases n <;> rfl

theorem Store.pageByte_eq (t : Store) (p : Nat) : t.pageByte p
    = byteOf ((match t.state p with | .erased => 0 | .valid => 1 | .invalid => 2)
      + if t.isLocked p then 128 else 0) := by
  unfold Store.pageByte
  cases t.state p <;> rfl

/-- The engine fields of STORE-STATUS (11.5). -/
theorem engineBytes_eq (e : Option Operation) : engineByte e :: inFlightBytes e = match e with
    | none => [0, 0, 255, 255]
    | some o => [o.phase.code, o.kind.code, byteOf o.page, match o.source with | some t => byteOf t | none => 255] := by
  cases e with
  | none => rfl
  | some o =>
    rw [inFlightBytes, pageNumByte_eq]
    rfl

/-- Settles O37: by whether there is a last result. -/
theorem storeStatusShowsStore : Obligations.StoreStatusShowsStore := by
  intro s d hat x engine pages
  have hengine : engine = engineByte x.engine :: inFlightBytes x.engine := (engineBytes_eq x.engine).symm
  have hpages : pages = (List.range 11).flatMap fun p => x.pageByte p :: wordBytes (x.erases p) :=
    congrArg (fun f => (List.range 11).flatMap f)
      (funext fun p => congrArg (· :: wordBytes (x.erases p)) (x.pageByte_eq p).symm)
  have ok := hat.exec_ok (exec_storeStatus s) (t := drew (lastDraws x.last) (s.took .store)) rfl
  refine ⟨lastBytes (freeBytesNow (s.took .store) (lastDraws x.last)) x.last, s.draws + lastDraws x.last,
    lastBytes_length (freeBytesNow_length _ _), fun hnone => ?_, fun l hl => ?_, ?_⟩
  · rw [hnone]
    exact lastBytes_none (freeBytesNow_length _ _)
  · rw [hl]
    exact ⟨rfl, congrArg (fun n => [l.kind.code, byteOf l.page, n, l.ending.code, l.phase.code] ++ bytesOf 6 l.time.toNat)
      (pageNumByte_eq l.source)⟩
  · rw [ok, hengine, hpages]
    refine congrArg (fun bs => Host.Outcome.next (State.answers _ d bs)) ?_
    simp only [Store.statusContents, List.append_assoc]
    rfl

/-! ### Phases -/

theorem phaseEvent_ends {ends : Operation → Bool} {s : State} {o : Operation} (f : Operation → State → State)
    (h : s.store.engine = some o) (hends : ends o = true) : phaseEvent ends f s = f o (elapse o.left s) := by
  unfold phaseEvent
  rw [h]
  exact if_pos hends

/-- The command of a phase that ends, on the operation in flight after the time left of it (R154). -/
theorem exec_phase {c : Instr} {ends : Operation → Bool} {f : Operation → State → State} {s : State} {o : Operation}
    (hc : exec c s = .next (s.ifPowered (phaseEvent ends f))) (hpow : s.powered = true)
    (ho : s.store.engine = some o) (hends : ends o = true) : exec c s = .next (f o (elapse o.left s)) := by
  rw [hc, State.ifPowered_on hpow, phaseEvent_ends f ho hends]

/-- The state once operation `o` has ended in `s` with result `g`, its latch, and the alerts it raises. -/
theorem raise_endOperation (c : AlertCond) (o : Operation) (g : Ending) (s : State) :
    raise c (endOperation o g s) = ((s.withStore (s.store.ended o g s.time.linkTime)).withResolver
      (s.resolver.unpin o.source)).alerted c.single := rfl

/-- Two runs of 256 words are equal when they agree word by word. -/
theorem wholePage_eq_iff (f g : Nat → Word) : wholePage f = wholePage g ↔ ∀ i, i < 256 → f i = g i := by
  simp only [wholePage, wordsFrom, Nat.zero_add, List.map_inj_left, List.mem_range, pageSize]

theorem wholePage_getD (f : Nat → Word) {i : Nat} (h : i < 256) : (wholePage f).getD i 0 = f i := by
  simp [wholePage, wordsFrom, pageSize, List.getD, h]

theorem wholePage_length (f : Nat → Word) : (wholePage f).length = 256 := by
  simp [wholePage, wordsFrom, pageSize]

theorem verifyEqual_iff (held : Bool) (o : Operation) (s : State) : verifyEqual held o s = true
    ↔ held = true ∧ ∀ i, i < 256 → s.store.word o.page i = s.resolver.word o.sourcePage i := by
  rw [verifyEqual, Bool.and_eq_true, beq_iff_eq, wholePage_eq_iff]

theorem Store.state_setState {t : Store} (h : t.TablesWf) (p : Nat) (v : PageState) (q : Nat) :
    (t.setState p v).state q = if q = p then v else t.state q := Cells.read_write h.1 p q v

theorem Store.isLocked_setLock {t : Store} (h : t.TablesWf) (p : Nat) (b : Bool) (q : Nat) :
    (t.setLock p b).isLocked q = if q = p then b else t.isLocked q := Cells.read_write h.2.1 p q b

/-- Settles O38: by the phase that completes, after the time left of it. -/
theorem phaseCompletions : Obligations.PhaseCompletions := by
  intro s o hpow ho htables e ended done fault
  have wf : e.store.TablesWf := htables.storeWf
  have words : Cells.Wf 0 e.store.words := htables.words
  have sourcePage : ∀ t, o.source = some t → o.sourcePage = t := fun t ht => by rw [Operation.sourcePage, ht]; rfl
  have unpinned : o.source = none → (elapse o.left s).resolver.unpin o.source = s.resolver := fun h => by rw [h]; rfl
  refine ⟨fun hk hp => ?erased, fun t hk hp hsrc => ?written, fun t held hk hp hsrc => ?verified,
    fun good hk hp hsrc => ?erase, fun hk hp hsrc => ?locked⟩
  case erased =>
    refine ⟨e.store.wipe o.page, fun q i hq hi => (Store.word_wipe words _ _ _ hi).trans (if_neg hq), ?_⟩
    exact exec_phase (c := .programErasingComplete) rfl hpow ho (by simp [hk, hp])
  case written =>
    refine ⟨e.store.fillPage o.page (wholePage (s.resolver.word t)), fun q i hi => ?_, ?_⟩
    · rw [Store.word_fillPage words _ _ _ _ (wholePage_length _) hi, wholePage_getD _ hi]
      rfl
    · have filled (ws : List Word) : nextPhase o .verifying (e.withStore (e.store.fillPage o.page ws)) = e.withStore
          { e.store with words := (e.store.fillPage o.page ws).words,
                         engine := some { o with phase := .verifying, left := 25000 } } := rfl
      have source : (elapse o.left s).resolver.word o.sourcePage = s.resolver.word t :=
        congrArg s.resolver.word (sourcePage t hsrc)
      rw [exec_phase (c := .writingComplete) rfl hpow ho (by simp [hk, hp]), source]
      exact congrArg Host.Outcome.next (filled _)
  case verified =>
    refine ⟨s.resolver.unpin o.source, hsrc ▸ PinSet.unpin htables.pins o.source, ?_⟩
    intro equal
    have equal_iff : verifyEqual held o e = true ↔ equal := by
      rw [verifyEqual_iff, sourcePage t hsrc]
      rfl
    have completes := exec_phase (c := .verifyComplete held) rfl hpow ho (by simp [hk, hp])
    refine ⟨fun heq => ⟨e.store.setState o.page .valid, fun q => Store.state_setState wf _ _ q, ?_⟩, fun hne => ?_⟩
    · rw [completes, if_pos (equal_iff.mpr heq), raise_endOperation]
      rfl
    · rw [completes, if_neg (mt equal_iff.mp hne), raise_endOperation]
      rfl
  case erase =>
    have ends : ((o.kind == .erase || o.kind == .unlockErase) && o.phase == .erasing) = true := by
      rcases hk with hk | hk <;> simp [hk, hp]
    have completes := exec_phase (c := .eraseComplete good) rfl hpow ho ends
    refine ⟨fun hgood => ?_, fun hbad => ?_⟩
    · have wiped : (e.store.wipe o.page).TablesWf := wf.wipe _
      have erased := wiped.setState o.page .erased
      refine ⟨((e.store.wipe o.page).setState o.page .erased).setLock o.page false,
        fun q => Store.state_setState wiped _ _ q, fun q => Store.isLocked_setLock erased _ _ q,
        fun q i hq hi => (Store.word_wipe words _ _ _ hi).trans (if_neg hq), ?_⟩
      rw [completes, if_pos hgood, raise_endOperation, State.withStore_resolver, unpinned hsrc]
      rfl
    · rw [completes, hbad, if_neg Bool.false_ne_true, raise_endOperation, unpinned hsrc]
      rfl
  case locked =>
    refine ⟨e.store.setLock o.page true, Store.isLocked_setLock wf _ _, ?_⟩
    rw [exec_phase (c := .lockComplete) rfl hpow ho (by simp [hk, hp]), raise_endOperation,
      State.withStore_resolver, unpinned hsrc]
    rfl

end Sys2Proof.Machine
end


section
/-! Proofs about the intake of a request (10.2): the steps of R177 as equations, the checks that fail, the repeat, and
the dispatch to another block. -/

namespace Sys2Proof.Machine

/-! ### The session timer at an intake -/

/-- An intake changes no more of the Agent than the timer of a session that the requester owns (R184). -/
theorem Agent.renewed_eq (a : Agent) (node : Byte) : a.renewed node = { a with
    session := a.session.map fun x => if x.owner = node then { x with left := a.profile.timeoutBits } else x } := by
  unfold Agent.renewed
  cases h : a.session with
  | none =>
    dsimp only [Option.map_none]
    rw [← h]
  | some x =>
    dsimp only [Option.map_some]
    split
    · rfl
    · rw [← h]

@[simp] theorem Agent.renewed_profile (a : Agent) (node : Byte) : (a.renewed node).profile = a.profile := by
  rw [Agent.renewed_eq]

@[simp] theorem Agent.renewed_cache (a : Agent) (node : Byte) : (a.renewed node).cache = a.cache := by
  rw [Agent.renewed_eq]

@[simp] theorem Agent.renewed_nextId (a : Agent) (node : Byte) : (a.renewed node).nextId = a.nextId := by
  rw [Agent.renewed_eq]

@[simp] theorem Agent.renewed_alerts (a : Agent) (node : Byte) : (a.renewed node).alerts = a.alerts := by
  rw [Agent.renewed_eq]

@[simp] theorem Agent.renewed_guard (a : Agent) (node : Byte) : (a.renewed node).guard = a.guard := by
  rw [Agent.renewed_eq]

/-- The owner of the session is who it was (R184). -/
theorem Agent.renewed_owner (a : Agent) (node : Byte) :
    (a.renewed node).session.map (·.owner) = a.session.map (·.owner) := by
  rw [Agent.renewed_eq]
  cases a.session with
  | none => rfl
  | some x => exact congrArg some (apply_ite Session.owner _ _ _ |>.trans (ite_self _))

theorem Agent.renewed_ownedBy_iff (a : Agent) (node n : Byte) :
    (a.renewed node).ownedBy n = true ↔ a.session.map (·.owner) = some n := by
  rw [Agent.ownedBy_iff, Agent.renewed_owner]

/-! ### The state at an intake -/

theorem AtIntake.arrived {s : State} {p : Port} {r : Request} (h : AtIntake s p r) : r.port = p := by
  obtain ⟨-, -, hp⟩ := h
  exact hp

theorem PassesAsNew.kind {s : State} {p : Port} {r : Request} {k : ReqKind} (h : PassesAsNew s p r k) :
    r.kind = some k := by
  obtain ⟨-, -, hk, -⟩ := h
  exact hk

theorem PassesAsNew.arrived {s : State} {p : Port} {r : Request} {k : ReqKind} (h : PassesAsNew s p r k) :
    r.port = p := h.1.arrived

@[simp] theorem State.received_agent (s : State) (p : Port) (r : Request) :
    (s.received p r).agent = s.agent.renewed r.source := rfl

theorem State.received_free (s : State) (p : Port) (r : Request) :
    ((s.received p r).port p).free = (s.port p).free := by
  cases p <;> rfl

theorem State.entered_eq (s : State) (p : Port) (r : Request) :
    makeEntry r (s.received p r) = s.entered p r := by
  rw [makeEntry, State.received_agent, Agent.renewed_nextId]
  rfl

theorem State.entered_free (s : State) (p : Port) (r : Request) : ((s.entered p r).port p).free = (s.port p).free := by
  cases p <;> rfl

/-- A request comes to its entry with the session's owner unchanged (R182, R184). -/
theorem State.entered_ownedBy_iff (s : State) (p : Port) (r : Request) :
    (s.entered p r).agent.ownedBy r.source = true ↔ s.agent.session.map (·.owner) = some r.source :=
  s.agent.renewed_ownedBy_iff _ _

theorem Agent.renewed_repeated (a : Agent) (node : Byte) (r : Request) : (a.renewed node).repeated r = a.repeated r := by
  rw [Agent.repeated, Agent.renewed_cache]
  rfl

/-! ### The commands of an intake -/

theorem intake_waiting {s : State} {p : Port} {r : Request} (h : (s.port p).request = some r) (hp : r.port = p) :
    intake p s = intakeRequest r (s.received p r) := by
  subst hp
  unfold intake waitingAt
  rw [h]
  dsimp only
  rw [State.onPort_agent]
  rfl

theorem intakeOf_waiting {s : State} {p : Port} {r : Request} (h : (s.port p).request = some r) (hp : r.port = p) :
    intakeOf r.kind p s = intakeRequest r (s.received p r) := by
  unfold intakeOf waitingAt
  rw [h]
  exact (if_pos rfl).trans (intake_waiting h hp)

theorem exec_unknownRequest {s : State} {p : Port} {r : Request} (h : AtIntake s p r) (hk : r.kind = none) :
    exec (.unknownRequest p) s = .next (intakeRequest r (s.received p r)) := by
  obtain ⟨hpow, hreq, hp⟩ := h
  rw [← intakeOf_waiting hreq hp, hk]
  exact congrArg Host.Outcome.next (State.ifPowered_on hpow _)

/-- The state in which an intake begins: a RESTART has its strap (R193). -/
def State.atIntake (s : State) (k : ReqKind) (strap : BitVec 2) : State :=
  if k = .restart then s.withStrap strap else s

@[simp] theorem State.atIntake_agent (s : State) (k : ReqKind) (strap : BitVec 2) :
    (s.atIntake k strap).agent = s.agent := by
  unfold State.atIntake; split <;> rfl

@[simp] theorem State.atIntake_port (s : State) (k : ReqKind) (strap : BitVec 2) (p : Port) :
    (s.atIntake k strap).port p = s.port p := by
  unfold State.atIntake; split <;> cases p <;> rfl

theorem State.atIntake_other (s : State) {k : ReqKind} (h : k ≠ .restart) (strap : BitVec 2) : s.atIntake k strap = s :=
  if_neg h

theorem exec_requestCommand (s : State) (p : Port) (k : ReqKind) (strap : BitVec 2) : exec (requestCommand strap k p) s
    = .next (s.ifPowered fun t => intakeOf (some k) p (t.atIntake k strap)) := by
  cases k <;> rfl

theorem exec_intake {s : State} {p : Port} {r : Request} {k : ReqKind} (h : AtIntake s p r) (hk : r.kind = some k)
    (strap : BitVec 2) : exec (requestCommand strap k p) s
      = .next (intakeRequest r ((s.atIntake k strap).received p r)) := by
  obtain ⟨hpow, hreq, hp⟩ := h
  rw [exec_requestCommand, State.ifPowered_on hpow, ← hk, intakeOf_waiting ?_ hp]
  rw [State.atIntake_port, hreq]

/-! ### The steps of R177 -/

theorem intakeRequest_noRoom {r : Request} {s : State} (h : (s.port r.port).free = 0) :
    intakeRequest r s = dropRequest r.port s := if_pos h

theorem intakeRequest_unknown {r : Request} {s : State} (h : 0 < (s.port r.port).free) (hk : r.kind = none) :
    intakeRequest r s = replyUncached r (replyPayload r .unknownRequest []) s := by
  unfold intakeRequest
  rw [if_neg (Nat.ne_of_gt h), hk]

theorem intakeRequest_identify {r : Request} {s : State} (h : 0 < (s.port r.port).free)
    (hk : r.kind = some .identify) : intakeRequest r s = carryIdentify r s := by
  unfold intakeRequest
  rw [if_neg (Nat.ne_of_gt h), hk]
  rfl

theorem intakeRequest_known {r : Request} {s : State} {k : ReqKind} (h : 0 < (s.port r.port).free)
    (hk : r.kind = some k) (hne : k ≠ .identify) : intakeRequest r s = intakeKnown k r s := by
  unfold intakeRequest
  rw [if_neg (Nat.ne_of_gt h), hk]
  exact if_neg hne

theorem intakeKnown_notAdmitted {r : Request} {s : State} {k : ReqKind}
    (h : ¬ s.agent.profile.admits k r.source = true) :
    intakeKnown k r s = replyUncached r (replyPayload r .notManager []) s := by
  simp [intakeKnown, h]

theorem intakeKnown_repeat {r : Request} {s : State} {k : ReqKind} {e : CacheEntry}
    (h : s.agent.profile.admits k r.source = true) (he : s.agent.repeated r = some e) :
    intakeKnown k r s = repeatRequest e r s := by
  simp [intakeKnown, h, he]

theorem intakeKnown_new {r : Request} {s : State} {k : ReqKind} (h : s.agent.profile.admits k r.source = true)
    (he : s.agent.repeated r = none) : intakeKnown k r s = afterEntry k r s.agent.nextId (makeEntry r s) := by
  simp [intakeKnown, h, he]

theorem afterEntry_badLength {r : Request} {s : State} {k : ReqKind} {entry : Nat}
    (h : ¬ k.lengthRight r.payload = true) : afterEntry k r entry s = replyNow r entry .badLength [] s := by
  simp [afterEntry, h]

theorem afterEntry_noSession {r : Request} {s : State} {k : ReqKind} {entry : Nat}
    (h : k.lengthRight r.payload = true) (hk : needsSession k = true) (ho : ¬ s.agent.ownedBy r.source = true) :
    afterEntry k r entry s = replyNow r entry .noSession [] s := by
  simp [afterEntry, h, hk, ho]

theorem afterEntry_carried {r : Request} {s : State} {k : ReqKind} {entry : Nat} (h : k.lengthRight r.payload = true)
    (ho : needsSession k = true → s.agent.ownedBy r.source = true) :
    afterEntry k r entry s = carryOut k r entry s := by
  rw [afterEntry, h]
  cases hk : needsSession k with
  | false => rfl
  | true => rw [ho hk]; rfl

/-- A new request comes to its entry (R177 step 5, R182). -/
theorem exec_new {s : State} {p : Port} {r : Request} {k : ReqKind} (h : PassesAsNew s p r k) (strap : BitVec 2) :
    exec (requestCommand strap k p) s
      = .next (afterEntry k r s.agent.nextId ((s.atIntake k strap).entered p r)) := by
  obtain ⟨hat, hfree, hk, hne, hadmits, hnew⟩ := h
  have hp : r.port = p := hat.arrived
  have free : 0 < (((s.atIntake k strap).received p r).port r.port).free := by
    rw [hp, State.received_free, State.atIntake_port]
    exact hfree
  rw [exec_intake hat hk strap, intakeRequest_known free hk hne, intakeKnown_new, State.entered_eq]
  · simp
  · simpa using hadmits
  · simpa [Agent.renewed_repeated] using hnew

/-! ### The checks -/

theorem ReqKind.lengthRight_alternatives (payload : List Byte) :
    (ReqKind.captureArm.lengthRight payload = true ↔ payload.length = 1 ∨ payload.length = 3) ∧
    (ReqKind.captureMark.lengthRight payload = true ↔ 2 ≤ payload.length ∧ payload.length ≤ 13) ∧
    (ReqKind.tuneWrite.lengthRight payload = true
      ↔ 4 ≤ payload.length ∧ payload.length = 4 + 2 * (payload.getD 3 0).toNat) := by
  refine ⟨?_, ?_, ?_⟩ <;> simp only [ReqKind.lengthRight, Bool.or_eq_true, Bool.and_eq_true, beq_iff_eq, decide_eq_true_eq]

theorem Profile.admits_iff (p : Profile) (k : ReqKind) (node : Byte) : p.admits k node = true
    ↔ p.managers = [] ∨ node ∈ p.managers ∨ (k = .alertAck ∧ p.alertNode = some node) := by
  simp only [Profile.admits, Bool.or_eq_true, Bool.and_eq_true, beq_iff_eq, List.isEmpty_iff, List.contains_iff_mem,
    or_assoc]

/-- An uncached reply is one frame placed at the arrival port (R177). -/
theorem replyUncached_eq (r : Request) (payload : List Byte) (s : State) :
    replyUncached r payload s = s.repliesUnkept r.port r payload := rfl

theorem carryIdentify_wrong {r : Request} {s : State} (h : r.payload.length ≠ 1) :
    carryIdentify r s = replyUncached r (replyPayload r .badLength []) s := if_neg (by simpa [ReqKind.lengthRight] using h)

theorem carryIdentify_right {r : Request} {s : State} (h : r.payload.length = 1) :
    carryIdentify r s = replyUncached r (replyPayload r .ok s.agent.identity) s := if_pos (by simpa [ReqKind.lengthRight] using h)

/-- Settles O39: by the first step of R177 that fails. -/
theorem intakeChecksInOrder : Obligations.IntakeChecksInOrder := by
  intro s p r k strap hat hk c s0 t code a kept n right
  obtain ⟨hpow, hreq, rfl⟩ := hat
  have hat : AtIntake s r.port r := ⟨hpow, hreq, rfl⟩
  have agent : s0.agent = s.agent := by simp only [s0]; split <;> rfl
  have free : (t.port r.port).free = (s.port r.port).free := by
    rw [State.received_free]
    simp only [s0]
    split <;> simp
  have profile : t.agent.profile = s.agent.profile := by
    rw [State.received_agent, Agent.renewed_profile, agent]
  have taken : exec c s = .next (intakeRequest r t) := by
    cases k with
    | none => exact exec_unknownRequest hat hk
    | some j =>
      have base : s0 = s.atIntake j strap := if_congr (Option.some_inj) rfl rfl
      have exact_intake := exec_intake hat hk strap
      rw [← base] at exact_intake
      exact exact_intake
  have right_iff (j : ReqKind) : j.lengthRight r.payload = true ↔ right j := by
    obtain ⟨arm, mark, tune⟩ := ReqKind.lengthRight_alternatives r.payload
    cases j with
    | captureArm => exact arm
    | captureMark => exact mark
    | tuneWrite => exact tune
    | _ => exact beq_iff_eq
  refine ⟨right_iff, fun hnone => ?noRoom, fun hsome => ?_⟩
  case noRoom => rw [taken, intakeRequest_noRoom (free.trans hnone), dropRequest]
  have room : 0 < (t.port r.port).free := free ▸ hsome
  refine ⟨fun hunk => ?unknown, fun hid hlen => ?idWrong, fun hid hlen => ?idRight, fun j hj hne => ?known⟩
  case unknown =>
    rw [taken, intakeRequest_unknown room (hk.trans hunk), replyUncached_eq]
    rfl
  case idWrong =>
    rw [taken, intakeRequest_identify room (hk.trans hid), carryIdentify_wrong hlen, replyUncached_eq, replyPayload,
      Request.codeByte_of_kind (hk.trans hid)]
    rfl
  case idRight =>
    rw [taken, intakeRequest_identify room (hk.trans hid), carryIdentify_right hlen, replyUncached_eq, replyPayload,
      Request.codeByte_of_kind (hk.trans hid), Agent.identity, profile]
    rfl
  case known =>
    intro admitted
    have known := intakeRequest_known room (hk.trans hj) hne
    have admits_iff : t.agent.profile.admits j r.source = true ↔ admitted := by
      rw [profile]
      exact Profile.admits_iff _ _ _
    refine ⟨fun hno => ?_, fun hyes hnew => ?_⟩
    · rw [taken, known, intakeKnown_notAdmitted (mt admits_iff.mp hno), replyUncached_eq]
      rfl
    · subst hj
      have base : s0 = s.atIntake j strap := if_congr (Option.some_inj) rfl rfl
      have entered := exec_new ⟨hat, hsome, hk, hne, profile ▸ admits_iff.mpr hyes, hnew⟩ strap
      rw [← base] at entered
      refine ⟨fun hwrong => ?_, fun hright hkind hother => ?_⟩
      · rw [afterEntry_badLength (mt (right_iff j).mp hwrong)] at entered
        exact entered
      · rw [afterEntry_noSession ((right_iff j).mpr hright) ?_ ?_] at entered
        · exact entered
        · rcases hkind with rfl | rfl | rfl <;> rfl
        · rw [State.entered_ownedBy_iff, agent]
          exact hother

/-! ### Repeats -/

/-- In a list whose keys differ, a member is what its key finds. -/
theorem find?_key_of_mem {α β : Type} [DecidableEq β] {f : α → β} {l : List α} (h : (l.map f).Nodup) {e : α}
    (he : e ∈ l) : l.find? (fun x => f x == f e) = some e := by
  obtain ⟨x, hx⟩ := Option.isSome_iff_exists.mp 
    (List.find?_isSome (p := fun x => f x == f e) |>.mpr ⟨e, he, beq_self_eq_true (f e)⟩)
  have key : f x = f e := beq_iff_eq.mp (List.find?_some (p := fun x => f x == f e) hx)
  rw [hx, List.inj_on_of_nodup_map h (List.mem_of_find?_eq_some hx) he key]

theorem Agent.repeated_of_mem {a : Agent} {r : Request} {e : CacheEntry} (h : (a.cache.map (·.node)).Nodup)
    (he : e ∈ a.cache) (hn : e.node = r.source) (hs : e.seq = r.seq) : a.repeated r = some e := by
  have found : cacheFind r.source a.cache = some e := hn ▸ find?_key_of_mem h he
  rw [Agent.repeated, found]
  exact if_pos hs

theorem repeatRequest_placed {e : CacheEntry} {r : Request} {s : State} {fs : List Frame} (h : e.frames = some fs)
    (hfit : fs.length ≤ (s.port r.port).free) : repeatRequest e r s
      = placeFrames r.port fs (s.withAgent { s.agent with cache := cacheUse e s.agent.cache }) := by
  unfold repeatRequest
  dsimp only
  rw [h]
  exact if_pos hfit

theorem repeatRequest_dropped {e : CacheEntry} {r : Request} {s : State}
    (h : e.frames = none ∨ ∃ fs, e.frames = some fs ∧ (s.port r.port).free < fs.length) : repeatRequest e r s
      = dropRequest r.port (s.withAgent { s.agent with cache := cacheUse e s.agent.cache }) := by
  unfold repeatRequest
  dsimp only
  rcases h with h | ⟨fs, h, hover⟩
  · rw [h]
  · rw [h]
    exact if_neg (Nat.not_le.mpr hover)

/-- Settles O40: the requester's one entry is found, and its frames are placed again or the request is dropped. -/
theorem repeatAnsweredFromCache : Obligations.RepeatAnsweredFromCache := by
  intro s p r k e strap hat hk hne hfree hadmits hnodup he hn hs t u
  obtain ⟨hpow, hreq, rfl⟩ := hat
  have agent : t.agent = s.agent.renewed r.source := congrArg (Agent.renewed · r.source) (s.atIntake_agent k strap)
  have free : (t.port r.port).free = (s.port r.port).free :=
    (State.received_free _ _ _).trans (congrArg PortState.free (s.atIntake_port k strap _))
  have taken : exec (requestCommand strap k r.port) s = .next (repeatRequest e r t) := by
    rw [exec_intake ⟨hpow, hreq, rfl⟩ hk strap, intakeRequest_known (free.symm ▸ hfree) hk hne, intakeKnown_repeat]
    · rfl
    · rw [State.received_agent, State.atIntake_agent, Agent.renewed_profile]
      exact hadmits
    · rw [State.received_agent, State.atIntake_agent, Agent.renewed_repeated]
      exact Agent.repeated_of_mem hnodup he hn hs
  have used : t.withAgent { t.agent with cache := cacheUse e t.agent.cache } = u := by
    rw [cacheUse, hn]
  refine ⟨fun fs hfs hfit => ?_, fun hdrop => ?_⟩
  · rw [taken, repeatRequest_placed hfs (free.symm ▸ hfit), used]
    rfl
  · rw [taken, repeatRequest_dropped (free.symm ▸ hdrop), used]
    rfl

/-! ### Dispatch -/

theorem ownerOf_code {k : ReqKind} (h : 0x10 ≤ k.code.toNat) : ownerOf k
    = some (if k.code.toNat ≤ 0x14 then .resolver else if k.code.toNat ≤ 0x26 then .store else .capture) := by
  revert h
  cases k <;> decide

theorem carryOut_dispatched {k : ReqKind} {b : Block} (h : ownerOf k = some b) (r : Request) (entry : Nat) (s : State) :
    carryOut k r entry s = dispatchTo b r entry (dispatchHeld k (s.port r.port).free) s := by
  cases k <;> cases h <;> rfl

theorem needsSession_iff (k : ReqKind) :
    needsSession k = true ↔ k = .tuneWrite ∨ k = .windowSet ∨ k = .closeSession := by
  cases k <;> decide

theorem dispatchTo_eq (b : Block) (r : Request) (entry held : Nat) (s : State) : dispatchTo b r entry held s
    = (s.onPort r.port fun x => { x with reservation := x.reservation + held }).withAgent
      { s.agent with dispatched := s.agent.dispatched ++ [⟨b, r, entry, held, none⟩] } := by
  unfold dispatchTo hold
  dsimp only
  rw [State.onPort_agent]

/-- Settles O41: by the owner of the code, with one reply frame held or all that are free. -/
theorem newRequestDispatchedWithRoom : Obligations.NewRequestDispatchedWithRoom := by
  intro s p r k hpass hlen hcode howns code b held u
  have hk : r.kind = some k := hpass.kind
  have hcodeByte : r.payload.getD 0 0 = k.code := Request.codeByte_of_kind hk
  have other : 0x10 ≤ k.code.toNat := hcodeByte ▸ hcode
  have hp : r.port = p := hpass.arrived
  have base : s.atIntake k 0 = s := State.atIntake_other s (by rintro rfl; exact absurd other (by decide)) 0
  have owner : ownerOf k = some b := by
    rw [ownerOf_code other, ← hcodeByte]
  have session : needsSession k = true → u.agent.ownedBy r.source = true := fun hneeds => by
    refine (State.entered_ownedBy_iff s p r).mpr (howns ?_)
    rcases (needsSession_iff k).mp hneeds with h | h | rfl
    · exact .inl h
    · exact .inr h
    · exact absurd other (by decide)
  subst hp
  rw [exec_new hpass, base, afterEntry_carried hlen session, carryOut_dispatched owner, dispatchTo_eq,
    State.entered_free]
  rfl

end Sys2Proof.Machine
end


section
/-! Proofs about the answers, the session and the alerts of the Management Agent (10.2 to 10.5, 10.7). -/

namespace Sys2Proof.Machine

/-! ### Counting -/

theorem bumpBy_zero (c : Count) : bumpBy c 0 = c := by
  have := c.isLt
  refine BitVec.eq_of_toNat_eq ?_
  rw [bumpBy, BitVec.toNat_ofNat]
  omega

/-- An increment and `n` more are `n + 1` increments (R35). -/
theorem bumpBy_bump (c : Count) (n : Nat) : bumpBy (bump c) n = bumpBy c (n + 1) := by
  have hc := c.isLt
  unfold bumpBy bump
  split
  · next h =>
    subst h
    refine congrArg (BitVec.ofNat 32) ?_
    simp only [BitVec.reduceToNat]
    omega
  · next h =>
    have hne : c.toNat ≠ 4294967295 := fun he => h (BitVec.eq_of_toNat_eq he)
    refine congrArg (BitVec.ofNat 32) ?_
    rw [BitVec.toNat_add]
    simp only [BitVec.reduceToNat]
    omega

/-! ### Frames placed in order -/

/-- Frames placed at a LINK-DOWN port are all lost (R27). -/
theorem PortState.placeAll_down (rs : List Reply) : ∀ {x : PortState}, x.link = .down →
    x.placeAll rs = { x with replyLost := bumpBy x.replyLost rs.length } := by
  induction rs with
  | nil =>
    intro x _
    rw [List.length_nil, bumpBy_zero]
    rfl
  | cons r rs ih =>
    intro x h
    rw [PortState.placeAll_cons, PortState.place_down h]
    refine (ih (x := { x with replyLost := bump x.replyLost }) h).trans ?_
    exact congrArg (fun c => { x with replyLost := c }) (bumpBy_bump x.replyLost rs.length)

/-- Frames placed while the transmitter sends join the tail of the Reply Queue (R27). -/
theorem PortState.placeAll_sending (rs : List Reply) : ∀ {x : PortState}, x.link = .up → x.sending ≠ none →
    x.placeAll rs = { x with reply := x.reply ++ rs } := by
  induction rs with
  | nil =>
    intro x _ _
    rw [List.append_nil]
    rfl
  | cons r rs ih =>
    intro x h hs
    rw [PortState.placeAll_cons, PortState.place_sending h hs]
    refine (ih (x := { x with reply := x.reply ++ [r] }) h hs).trans ?_
    exact congrArg (fun l => { x with reply := l }) (List.append_assoc x.reply [r] rs)

/-- An idle transmitter with nothing waiting takes the first frame placed; the others wait (R27, R29). -/
theorem PortState.placeAll_idle {x : PortState} (h : x.link = .up) (hs : x.sending = none) (ht : x.transit = [])
    (hr : x.reply = []) (r : Reply) (rs : List Reply) : x.placeAll (r :: rs)
      = { x with passover := 0, sending := some ⟨r.frame, true, 8 * r.frame.bytes.length + 16⟩, reply := rs } := by
  rw [PortState.placeAll_cons, PortState.place_idle h hs ht hr]
  refine (PortState.placeAll_sending rs (x := { x with
    passover := 0, sending := some ⟨r.frame, true, 8 * r.frame.bytes.length + 16⟩ }) h (Option.some_ne_none _)).trans ?_
  rw [hr, List.nil_append]

/-! ### The Retry Cache at an answer -/

theorem cacheFill_gone {entry : Nat} {c : List CacheEntry} (h : ∀ e ∈ c, e.id ≠ entry) (fs : List Frame) :
    cacheFill entry fs c = c := by
  have missing : c.find? (fun e => e.id == entry) = none :=
    List.find?_eq_none.mpr fun e he => mt beq_iff_eq.mp (h e he)
  rw [cacheFill, missing]

theorem cacheFill_kept {entry : Nat} {c : List CacheEntry} (h : (c.map (·.id)).Nodup) {e : CacheEntry} (he : e ∈ c)
    (hid : e.id = entry) (fs : List Frame) :
    cacheFill entry fs c = { e with frames := some fs } :: c.filter fun x => x.node != e.node := by
  have found : c.find? (fun x => x.id == entry) = some e := hid ▸ find?_key_of_mem h he
  rw [cacheFill, found]
  rfl

/-- Settles O42: by the link and the transmitter of the arrival port, and by whether the entry still stands. -/
theorem answersBuiltPlacedAndKept : Obligations.AnswersBuiltPlacedAndKept := by
  intro s r entry held payloads hok hnodup own frames y z placed
  have built : payloads.map (s.agent.buildReply r) = frames := rfl
  have port : PortState.placeAll (plainReplies frames) y = z := by
    have lost : (plainReplies frames).length = frames.length := List.length_map _
    simp only [z]
    split
    · next hlink => rw [PortState.placeAll_down _ hlink, lost]
    · next hlink hsend =>
      rw [PortState.placeAll_sending _ hlink (by simp [hsend])]
      rfl
    · next hnone => rw [hnone]; rfl
    · next f fs hlink hsend hsome =>
      obtain ⟨htransit, hreply⟩ := hok.idle hlink hsend
      rw [hsome]
      exact PortState.placeAll_idle (x := y) hlink hsend htransit hreply ⟨f, 0⟩ (plainReplies fs)
  have answered : answer r entry held payloads s = placed (cacheFill entry frames s.agent.cache) :=
    congrArg (fun x => (s.withPort r.port x).withAgent { s.agent with cache := cacheFill entry frames s.agent.cache }) port
  exact ⟨fun hgone => by rw [answered, cacheFill_gone hgone],
    fun e he hid => by rw [answered, cacheFill_kept hnodup he hid]⟩

/-! ### A new request of the Agent's own -/

/-- A new request whose length is right, and whose requester owns the session where that is asked for, is carried
out or dispatched (R177 step 8). -/
theorem exec_carried {s : State} {p : Port} {r : Request} {k : ReqKind} (h : PassesAsNew s p r k) (strap : BitVec 2)
    (hlen : k.lengthRight r.payload = true)
    (howns : needsSession k = true → s.agent.session.map (·.owner) = some r.source) :
    exec (requestCommand strap k p) s
      = .next (carryOut k r s.agent.nextId ((s.atIntake k strap).entered p r)) := by
  rw [exec_new h, afterEntry_carried hlen]
  intro hneeds
  rw [State.entered_ownedBy_iff, State.atIntake_agent]
  exact howns hneeds

@[simp] theorem State.entered_profile (s : State) (p : Port) (r : Request) :
    (s.entered p r).agent.profile = s.agent.profile := s.agent.renewed_profile _

@[simp] theorem State.entered_alerts (s : State) (p : Port) (r : Request) :
    (s.entered p r).agent.alerts = s.agent.alerts := s.agent.renewed_alerts _

@[simp] theorem State.entered_guard (s : State) (p : Port) (r : Request) :
    (s.entered p r).agent.guard = s.agent.guard := s.agent.renewed_guard _

theorem State.entered_owner (s : State) (p : Port) (r : Request) :
    (s.entered p r).agent.session.map (·.owner) = s.agent.session.map (·.owner) := s.agent.renewed_owner _

/-! ### The session -/

theorem Agent.openRefusal_low {a : Agent} (h : a.guard = false) (node : Byte) :
    a.openRefusal node = some (.guardLow, []) := by
  rw [Agent.openRefusal, h]
  rfl

theorem Agent.openRefusal_held {a : Agent} {owner node : Byte} (h : a.guard = true)
    (ho : a.session.map (·.owner) = some owner) (hne : owner ≠ node) :
    a.openRefusal node = some (.sessionHeld, [owner]) := by
  obtain ⟨x, hx, rfl⟩ := Option.map_eq_some_iff.mp ho
  rw [Agent.openRefusal, h, hx]
  exact if_neg hne

theorem Agent.openRefusal_none {a : Agent} {node : Byte} (h : a.guard = true)
    (ho : a.session.map (·.owner) = none ∨ a.session.map (·.owner) = some node) : a.openRefusal node = none := by
  rw [Agent.openRefusal, h]
  rcases ho with ho | ho
  · rw [Option.map_eq_none_iff.mp ho]
    rfl
  · obtain ⟨x, hx, hown⟩ := Option.map_eq_some_iff.mp ho
    rw [hx]
    exact if_pos hown

theorem carryOpenSession_refused {r : Request} {entry : Nat} {s : State} {c : ResultCode} {contents : List Byte}
    (h : s.agent.openRefusal r.source = some (c, contents)) :
    carryOpenSession r entry s = replyNow r entry c contents s := by
  rw [carryOpenSession, h]

theorem carryOpenSession_opens {r : Request} {entry : Nat} {s : State} (h : s.agent.openRefusal r.source = none) :
    carryOpenSession r entry s = replyNow r entry .ok
      [r.source, flagByte (r.flag 1), byteOf s.agent.profile.timeout]
      (s.withAgent { s.agent with session := some ⟨r.source, r.flag 1, s.agent.profile.timeout * 25000000⟩ }) := by
  rw [carryOpenSession, h]
  rfl

/-- An answer of one frame at the intake event, with the code of the request's kind (R179, 11.2). -/
theorem replyNow_eq {r : Request} {k : ReqKind} (h : r.kind = some k) (entry : Nat) (c : ResultCode)
    (contents : List Byte) (s : State) :
    replyNow r entry c contents s = answer r entry 0 [k.code :: c.code :: contents] s := by
  rw [replyNow, replyPayload, Request.codeByte_of_kind h]

theorem sessionExpires_some {s : State} {x : Session} (h : s.agent.session = some x) : sessionExpires s
    = raise .sessionExpired ((elapse x.left s).withAgent (elapse x.left s).agent.closed) := by
  rw [sessionExpires, h]

/-- Settles O43: by the guard and the owner; the timer and the guard at the Agent end a session. -/
theorem sessionOpensAndEnds : Obligations.SessionOpensAndEnds := by
  intro s
  refine ⟨fun p r hpass hlen => ?opens, fun p r hpass hlen howns => ?closes,
    fun hpow => ⟨fun x hx => ?expires, ?_, ?_⟩⟩
  case opens =>
    intro u flag timeout free
    have kind : r.kind = some .openSession := hpass.kind
    have carried : exec (.openSession p) s = .next (carryOpenSession r s.agent.nextId u) :=
      exec_carried hpass 0 (beq_iff_eq.mpr hlen) fun h => absurd h (by decide)
    have owner : u.agent.session.map (·.owner) = s.agent.session.map (·.owner) := s.entered_owner p r
    have guard : u.agent.guard = s.agent.guard := s.entered_guard p r
    refine ⟨fun hlow => ?_, fun x hhigh hx hother => ?_, fun hhigh hfree => ?_⟩
    · rw [carried, carryOpenSession_refused (Agent.openRefusal_low (guard.trans hlow) _), replyNow_eq kind]
      rfl
    · have held : u.agent.session.map (·.owner) = some x.owner := by rw [owner, hx]; rfl
      rw [carried, carryOpenSession_refused (Agent.openRefusal_held (guard.trans hhigh) held hother),
        replyNow_eq kind]
      rfl
    · have unheld : u.agent.session.map (·.owner) = none ∨ u.agent.session.map (·.owner) = some r.source := by
        rw [owner, Option.map_eq_none_iff]
        exact hfree
      rw [carried, carryOpenSession_opens (Agent.openRefusal_none (guard.trans hhigh) unheld), replyNow_eq kind,
        State.entered_profile]
      rfl
  case closes =>
    have kind : r.kind = some .closeSession := hpass.kind
    have carried : exec (.closeSession p) s = .next (carryCloseSession r s.agent.nextId (s.entered p r)) :=
      exec_carried hpass 0 (beq_iff_eq.mpr hlen) fun _ => howns
    rw [carried, carryCloseSession, replyNow_eq kind]
    rfl
  case expires =>
    refine (congrArg Host.Outcome.next (State.ifPowered_on hpow sessionExpires)).trans ?_
    rw [sessionExpires_some hx, raise_alerted]
    rfl
  · exact congrArg Host.Outcome.next (State.ifPowered_on hpow agentGuardFalls)
  · exact congrArg Host.Outcome.next (State.ifPowered_on hpow agentGuardRises)

/-! ### The alert cycle -/

theorem alertSend_unnamed {s : State} (h : s.agent.profile.alertNode = none) : alertSend s = s := by
  rw [alertSend, h]

theorem alertPort_eq (c : Classifier) (node : Byte) : alertPort c node
    = if Cells.read Side.unknown c.nodeMap node.toNat = .down then .D else .U := by
  unfold alertPort
  cases Cells.read Side.unknown c.nodeMap node.toNat <;> rfl

theorem Alerts.sendDue_iff (a : Alerts) :
    a.sendDue = true ↔ a.retryDue = true ∨ (a.pending ≠ 0 ∧ a.outstanding = 0) := by
  simp only [Alerts.sendDue, Bool.or_eq_true, Bool.and_eq_true, bne_iff_ne, beq_iff_eq, ne_eq]

theorem alertSend_waits {s : State} {node : Byte} (h : s.agent.profile.alertNode = some node)
    (hw : ¬ (s.agent.alerts.sendDue = true ∧ 0 < (s.port (alertPort s.classifier node)).free)) : alertSend s = s := by
  rw [alertSend, h]
  exact if_neg hw

theorem alertSend_sends {s : State} {node : Byte} (h : s.agent.profile.alertNode = some node)
    (hd : s.agent.alerts.sendDue = true) (hf : 0 < (s.port (alertPort s.classifier node)).free) : alertSend s
      = (placeFrames (alertPort s.classifier node) [s.agent.alertFrame node s.agent.alerts.sent] s).withAgent
        { s.agent with alerts := s.agent.alerts.sent } := by
  rw [alertSend, h]
  exact if_pos ⟨hd, hf⟩

theorem ackExpiry_running {s : State} {n : Nat} (h : s.agent.alerts.ackTimer = some n)
    (ho : s.agent.alerts.outstanding ≠ 0) : ackExpiry s = (elapse n s).withAgent
      { (elapse n s).agent with alerts := (elapse n s).agent.alerts.expired } := by
  rw [ackExpiry, h]
  exact if_neg ho

theorem Alerts.acknowledges_iff (a : Alerts) (serial : Byte) :
    a.acknowledges serial = true ↔ a.outstanding ≠ 0 ∧ serial = a.current := by
  rw [Alerts.acknowledges, Bool.and_eq_true, bne_iff_ne, beq_iff_eq, eq_comm (a := a.current)]

/-- Settles O44: a send when it is due and there is room, the three tries, and the acknowledgement. -/
theorem alertCycle : Obligations.AlertCycle := by
  intro s hpow a
  have sends : exec .alertSend s = .next (alertSend s) := congrArg Host.Outcome.next (State.ifPowered_on hpow alertSend)
  refine ⟨fun hnone => ?_, fun node hnode => ?send, fun n hn hout => ?expiry, fun p r hpass hlen => ?ack⟩
  · rw [sends, alertSend_unnamed hnone]
  case send =>
    intro due q set tries payload own f
    have port : alertPort s.classifier node = q := alertPort_eq _ _
    have due_iff : s.agent.alerts.sendDue = true ↔ due := Alerts.sendDue_iff _
    refine ⟨fun hwait => ?_, fun hdue hroom => ?_⟩
    · rw [sends, alertSend_waits hnode]
      rintro ⟨hdue, hroom⟩
      rw [port] at hroom
      exact hwait.elim (fun h => h (due_iff.mp hdue)) (Nat.ne_of_gt hroom)
    · rw [sends, alertSend_sends hnode (due_iff.mpr hdue) (port ▸ hroom), port]
      rfl
  case expiry =>
    have expires : exec .ackTimerExpiry s = .next (ackExpiry s) :=
      congrArg Host.Outcome.next (State.ifPowered_on hpow ackExpiry)
    rw [ackExpiry_running hn hout] at expires
    intro e
    refine ⟨fun hfew => expires.trans ?_, fun hmany => expires.trans ?_⟩
    · exact congrArg (fun x => Host.Outcome.next (e.withAgent { e.agent with alerts := x })) (if_pos hfew)
    · exact congrArg (fun x => Host.Outcome.next (e.withAgent { e.agent with alerts := x }))
        (if_neg (Nat.not_lt.mpr hmany))
  case ack =>
    intro u current
    have kind : r.kind = some .alertAck := hpass.kind
    have carried : exec (.alertAck p) s = .next (carryAlertAck r s.agent.nextId u) :=
      exec_carried hpass 0 (beq_iff_eq.mpr hlen) fun h => absurd h (by decide)
    have alerts : u.agent.alerts = a := s.entered_alerts p r
    have current_iff : u.agent.alerts.acknowledges (r.payload.getD 1 0) = true ↔ current := by
      rw [alerts]
      exact Alerts.acknowledges_iff _ _
    refine ⟨fun hcur => ?_, fun hstale => ?_⟩
    · rw [carried, carryAlertAck, if_pos (current_iff.mpr hcur), replyNow_eq kind, alerts]
      rfl
    · rw [carried, carryAlertAck, if_neg (mt current_iff.mp hstale), replyNow_eq kind]
      rfl

end Sys2Proof.Machine
end


section
/-! Proofs about STATUS, COUNTERS and COUNTERS-CLEAR (10.6): how a gathering begins, and its parts at the blocks. -/

namespace Sys2Proof.Machine

/-! ### Gatherings begin -/

theorem beginGather_eq (k : GatherKind) (r : Request) (entry held : Nat) (blocks : List Block) (s : State) :
    beginGather k r entry held blocks s
      = (s.onPort r.port fun x => { x with reservation := x.reservation + held }).withAgent
        { s.agent with
          nextId := s.agent.nextId + 1
          gathers := s.agent.gathers ++ [⟨s.agent.nextId, k, r, entry, held, blocks, []⟩]
          dispatched := s.agent.dispatched ++ blocks.map fun b => ⟨b, r, entry, held, some s.agent.nextId⟩ } := by
  unfold beginGather hold
  dsimp only
  rw [State.onPort_agent]

theorem Agent.statusClears_eq (a : Agent) : a.statusClears = { a with
    alerts := if a.profile.alertNode = none then { a.alerts with pending := 0 }
      else { a.alerts with unreported := 0 } } := by
  unfold Agent.statusClears
  cases a.profile.alertNode <;> rfl

/-- The bytes of the Agent's part about its profile (11.5). -/
theorem profileBytes_eq (a : Agent) : [flagByte a.profile.loaded, a.profileState.code, byteOf a.profileState.index,
    a.profile.address, a.strapRead.setWidth 8] = [if a.profile.loaded then 1 else 0,
      match a.profileState with | .absent => 0 | .loaded => 1 | .rejected _ => 2,
      match a.profileState with | .rejected i => byteOf i | _ => 0, a.profile.address, a.strapRead.setWidth 8] := by
  cases a.profileState <;> rfl

theorem nodeByte_eq (n : Option Byte) : nodeByte n = match n with | some node => node | none => 255 := by
  cases n <;> rfl

theorem carryCounters_range {r : Request} {entry : Nat} {s : State} (h : 4 < r.field 1) :
    carryCounters r entry s = replyNow r entry .range [] s := if_pos h

theorem carryCounters_begins {r : Request} {entry : Nat} {s : State} (h : r.field 1 ≤ 4) : carryCounters r entry s
    = beginGather (.counters (r.field 1)) r entry (countersHeld (r.field 1) (s.port r.port).free)
      (groupBlocks (r.field 1)) s := if_neg (Nat.not_lt.mpr h)

theorem groupBlocks_eq (g : Nat) : groupBlocks g = if g = 0 then [.port .U, .port .D]
    else if g = 1 then [.classifier, .trigger] else [.classifier] := by
  match g with
  | 0 => rfl
  | 1 => rfl
  | g + 2 => rfl

/-- Settles O45: each of the three kinds holds its room and is dispatched to its blocks. -/
theorem gatheringsBegin : Obligations.GatheringsBegin := by
  intro s p r n begins u
  refine ⟨fun hpass hlen => ?status, fun hpass hlen => ?counters, fun hpass hlen => ?clear⟩
  case status =>
    intro a profile
    have carried : exec (.status p) s = .next (carryStatus r n u) :=
      exec_carried hpass 0 (beq_iff_eq.mpr hlen) fun h => absurd h (by decide)
    refine ⟨sessionBytes (Config.freeFlag u.draws) a.session, a.alerts.serialByte (Config.freeByte (u.draws + 1)),
      u.draws + 2, fun x hx => ?_, fun hnone => ?_, fun htries => if_pos htries, ?_⟩
    · rw [hx]
      rfl
    · rw [hnone]
      exact ⟨_, rfl⟩
    · intro part cleared
      have own : u.agent.statusBytes u.draws = part := by
        rw [Agent.statusBytes, profileBytes_eq, nodeByte_eq]
        rfl
      obtain rfl := hpass.arrived
      rw [carried, carryStatus, own, beginGather_eq, Agent.statusClears_eq]
      rfl
  case counters =>
    intro g
    have kind : r.kind = some .counters := hpass.kind
    have carried : exec (.counters p) s = .next (carryCounters r n u) :=
      exec_carried hpass 0 (beq_iff_eq.mpr hlen) fun h => absurd h (by decide)
    refine ⟨fun hout => ?_, fun hin => ?_⟩
    · rw [carried, carryCounters_range hout, replyNow_eq kind]
      rfl
    · obtain rfl := hpass.arrived
      rw [carried, carryCounters_begins hin, beginGather_eq, groupBlocks_eq, State.entered_free]
      rfl
  case clear =>
    have carried : exec (.countersClear p) s = .next (carryCountersClear r n u) :=
      exec_carried hpass 0 (beq_iff_eq.mpr hlen) fun h => absurd h (by decide)
    obtain rfl := hpass.arrived
    rw [carried, carryCountersClear, beginGather_eq]
    rfl

/-! ### Parts -/

/-- The part of a gathering that a block takes next (R179, R187, R188). -/
theorem partEvent_takes {s : State} {b : Block} {g : Gather} (h : AtPart s b g) {ofKind : GatherKind → Bool}
    (hk : ofKind g.kind = true) (f : GatherKind → State → State × List Byte) :
    partEvent b ofKind f s = deliverPart g b (f g.kind (s.took b)).2 (f g.kind (s.took b)).1 := by
  obtain ⟨-, ⟨d, hd, hid⟩, hg⟩ := h
  unfold partEvent
  rw [hd]
  dsimp only
  rw [hid]
  dsimp only
  rw [hg]
  exact if_pos hk

/-- A part delivered is a part given, where `replies` is what the gathering comes to (R187, R188). -/
theorem deliverPart_given {g : Gather} {b : Block} {bytes : List Byte} {replies : Gather → List (List Byte)}
    (u : State) (h : (g.give b bytes).payloads = replies (g.give b bytes)) :
    PartGiven g b bytes replies u (deliverPart g b bytes u) := by
  refine ⟨fun hmore => ?_, fun hlast => ?_⟩
  · rw [deliverPart_more hmore]
    simp only [beq_iff_eq]
    rfl
  · have others : (fun x : Gather => x.id != g.id) = fun x => decide (x.id ≠ g.id) :=
      funext fun x => Bool.eq_iff_iff.mpr (by rw [bne_iff_ne, decide_eq_true_iff])
    rw [deliverPart_last hlast, h, others]
    rfl

/-- The command of a part that block `b` takes next for gathering `g`: the part given. -/
theorem exec_part {s : State} {b : Block} {g : Gather} {c : Instr} {ofKind : GatherKind → Bool}
    {f : GatherKind → State → State × List Byte} (h : AtPart s b g)
    (hc : exec c s = .next (s.ifPowered (partEvent b ofKind f))) (hk : ofKind g.kind = true) {u : State}
    {bytes : List Byte} (hf : f g.kind (s.took b) = (u, bytes)) {replies : Gather → List (List Byte)}
    (hr : (g.give b bytes).payloads = replies (g.give b bytes)) :
    ∃ t, PartGiven g b bytes replies u t ∧ exec c s = .next t := by
  refine ⟨_, deliverPart_given u hr, ?_⟩
  rw [hc, State.ifPowered_on h.1, partEvent_takes h hk, hf]

/-! ### The parts of a STATUS -/

theorem Gather.payloads_status {x : Gather} {own : List Byte} (h : x.kind = .status own) : x.payloads
    = [[x.request.payload.getD 0 0, 0x00] ++ own ++ x.part .timeBase
      ++ [(x.part (.port .U)).getD 0 0 ||| (x.part (.port .D)).getD 0 0] ++ x.part .capture ++ x.part .store] := by
  rw [Gather.payloads, h]
  simp only [List.append_assoc]
  rfl

theorem linkByte_eq (p : Port) (x : PortState) :
    linkByte p x = [if x.link = .up then (match p with | .U => 1 | .D => 2) else 0] := by
  unfold linkByte
  cases x.link <;> cases p <;> rfl

/-- The store's part of a STATUS: engine, page in flight and latch, and the page states two to a byte (11.5). -/
theorem Store.statusBytes_eq (t : Store) {half : Nat → Nat} (h : ∀ p, (t.state p).code = half p) : t.statusBytes
    = [engineByte t.engine, match t.engine with | none => (255 : Byte) | some o => byteOf o.page, t.latch.code]
      ++ (List.range 6).map fun i => byteOf (16 * half (2 * i) + if i = 5 then 0 else half (2 * i + 1)) := by
  obtain rfl : (fun p => (t.state p).code) = half := funext h
  unfold Store.statusBytes
  cases t.engine <;> rfl

/-- Settles O46: each block's part is its bytes of 11.5 as it stands. -/
theorem statusPartsReadWhole : Obligations.StatusPartsReadWhole := by
  intro s g own hk halves replies c
  have ofKind : GatherKind.isStatus g.kind = true := by rw [hk]; rfl
  have read : ∀ (b : Block) (bytes : List Byte), (g.give b bytes).payloads = replies (g.give b bytes) :=
    fun b bytes => Gather.payloads_status hk
  refine ⟨fun h => ?_, fun p h => ?_, fun h => ?_, fun h => ?_⟩
  · exact exec_part h (c := .statusPartRead .timeBase) rfl ofKind rfl (read _ _)
  · have part : statusPart (.port p) (s.took (.port p)) = linkByte p (s.port p) := by
      rw [statusPart, State.took, State.withAgent_port]
    have given := exec_part h (c := .statusPartRead (.port p)) rfl ofKind (congrArg _ part) (read _ _)
    rw [linkByte_eq] at given
    exact given
  · exact exec_part h (c := .statusPartRead .capture) rfl ofKind rfl (read _ _)
  · have code (p : Nat) : (s.store.state p).code = halves p := by
      dsimp only [halves]
      cases s.store.state p <;> rfl
    exact exec_part h (c := .statusPartRead .store) rfl ofKind (congrArg _ (s.store.statusBytes_eq code)) (read _ _)

/-! ### The parts of COUNTERS and COUNTERS-CLEAR -/

theorem Gather.payloads_counters {x : Gather} {n : Nat} (h : x.kind = .counters n) : x.payloads = if n = 0 then
      if 2 ≤ x.held then [[x.request.payload.getD 0 0, 0x00, 0, 0x12] ++ x.part (.port .U),
        [x.request.payload.getD 0 0, 0x00, 0, 0x22] ++ x.part (.port .D)]
      else [[x.request.payload.getD 0 0, 0x00, 0, 0x11] ++ x.part (.port .U)]
    else [[x.request.payload.getD 0 0, 0x00, byteOf n, 0x11] ++ x.part .classifier ++ x.part .trigger] := by
  unfold Gather.payloads
  rw [h]
  cases n <;> rfl

theorem Gather.payloads_clear {x : Gather} (h : x.kind = .clear) :
    x.payloads = [[x.request.payload.getD 0 0, (0x00 : Byte)]] := by
  unfold Gather.payloads
  rw [h]
  rfl

theorem PortState.counterBytes_eq (x : PortState) : x.counterBytes = [x.rxGood, x.rxCheckErr, x.rxFormatErr, x.txFrames,
    x.transitDropFull, x.transitDropDown, x.replyLost, x.requestDrop].flatMap fun c => bytesOf 4 c.toNat := by
  simp only [PortState.counterBytes, countBytes, List.flatMap_cons, List.flatMap_nil, List.append_assoc, List.append_nil]

/-- The Classifier's counters of group 1 to 4 (R188). -/
theorem Classifier.counterBytes_eq (x : Classifier) {n : Nat} (hlow : 1 ≤ n) (hhigh : n ≤ 4) : x.counterBytes n
    = (if n = 1 then [x.unmatched, x.unresolved, x.holdDiscard, x.toSelf]
      else if n = 2 then (List.range 12).map fun i => Cells.read 0 x.classCount (0 + i)
      else if n = 3 then (List.range 12).map fun i => Cells.read 0 x.classCount (12 + i)
      else (List.range 8).map fun i => Cells.read 0 x.classCount (24 + i)).flatMap fun c => bytesOf 4 c.toNat := by
  obtain rfl | rfl | rfl | rfl : n = 1 ∨ n = 2 ∨ n = 3 ∨ n = 4 := by omega
  · simp only [Classifier.counterBytes, countBytes, if_true, List.flatMap_cons, List.flatMap_nil, List.append_assoc,
      List.append_nil]
  all_goals exact (List.flatMap_map ..).symm

/-- Settles O47: each block's part by the counters it keeps. -/
theorem counterPartsReadAndCleared : Obligations.CounterPartsReadAndCleared := by
  intro s g code count
  refine ⟨fun n hk => ?read, fun hk => ?clear⟩
  case read =>
    intro replies
    have ofKind : GatherKind.isCounters g.kind = true := by rw [hk]; rfl
    have read : ∀ (b : Block) (bytes : List Byte), (g.give b bytes).payloads = replies (g.give b bytes) :=
      fun b bytes => Gather.payloads_counters hk
    refine ⟨fun p h => ?_, fun h hlow hhigh => ?_, fun h => ?_⟩
    · have part : countersPart (.port p) g.kind (s.took (.port p)) = (s.port p).counterBytes := by
        rw [countersPart, State.took, State.withAgent_port]
      exact exec_part h (c := .countersPartRead (.port p)) rfl ofKind
        (congrArg _ (part.trans (s.port p).counterBytes_eq)) (read _ _)
    · have part : countersPart .classifier g.kind (s.took .classifier) = s.classifier.counterBytes n := by
        rw [hk]
        rfl
      exact exec_part h (c := .countersPartRead .classifier) rfl ofKind
        (congrArg _ (part.trans (s.classifier.counterBytes_eq hlow hhigh))) (read _ _)
    · exact exec_part h (c := .countersPartRead .trigger) rfl ofKind rfl (read _ _)
  case clear =>
    intro replies
    have ofKind : GatherKind.isClear g.kind = true := by rw [hk]; rfl
    have read : ∀ (b : Block) (bytes : List Byte), (g.give b bytes).payloads = replies (g.give b bytes) :=
      fun b bytes => Gather.payloads_clear hk
    refine ⟨fun p h => ?_, fun h => ?_, fun h => ?_⟩
    · exact exec_part h (c := .countersPartClear (.port p)) rfl ofKind rfl (read _ _)
    · exact exec_part h (c := .countersPartClear .classifier) rfl ofKind rfl (read _ _)
    · exact exec_part h (c := .countersPartClear .trigger) rfl ofKind rfl (read _ _)

end Sys2Proof.Machine
end


section
/-! Proofs about RESTART and power (9.6, 10.1, 10.9): the Agent's event, the blocks' events, the autostart, and what
a POR and a loss of power leave. -/

namespace Sys2Proof.Machine

/-! ### The load of the profile -/

/-- A load of the profile on an Agent with no alert pending (R175). -/
theorem Agent.load_clear (t : Store) (strap : BitVec 2) {a : Agent} (h : a.alerts.pending = 0) :
    Agent.load t strap a = { a with
      profile := (t.loadProfile strap).1, profileState := (t.loadProfile strap).2, strapRead := strap
      alerts := { a.alerts with
        pending := match (t.loadProfile strap).2 with | .rejected _ => 0b1000000#7 | _ => 0 } } := by
  have quiet : a.alerts = { a.alerts with pending := 0 } := congrArg (fun b => { a.alerts with pending := b }) h
  unfold Agent.load Agent.raised
  dsimp only
  cases (t.loadProfile strap).2 with
  | absent => rw [← quiet]
  | loaded => rw [← quiet]
  | rejected i =>
    rw [h]
    rfl

/-! ### RESTART at the Agent -/

theorem State.entered_store (s : State) (p : Port) (r : Request) : (s.entered p r).store = s.store := by
  cases p <;> rfl

theorem State.entered_strap (s : State) (p : Port) (r : Request) : (s.entered p r).strap = s.strap := by
  cases p <;> rfl

theorem acceptRestart_eq (r : Request) (s : State) : acceptRestart r s
    = (s.onPort r.port (PortState.place ⟨s.agent.buildReply r (replyPayload r .ok []), s.agent.egressOwed r.port + 1⟩)
      ).withAgent (s.agent.restarted s.store s.strap) := by
  unfold acceptRestart
  dsimp only
  rw [State.onPort_agent, State.onPort_store, State.onPort_strap]

theorem carryRestart_busy {r : Request} {entry : Nat} {s : State} (h : s.store.engine ≠ none) :
    carryRestart r entry s = replyNow r entry .busy [] s := if_pos h

theorem carryRestart_ready {r : Request} {entry : Nat} {s : State} (h : s.store.engine = none) :
    carryRestart r entry s = acceptRestart r s := if_neg (not_not_intro h)

/-- Settles O49: by the engine; an accepted RESTART places its reply and then loads the profile. -/
theorem restartAtTheAgent : Obligations.RestartAtTheAgent := by
  intro s p r strap hpass hlen u a owed
  have kind : r.kind = some .restart := hpass.kind
  have carried : exec (.restart p strap) s = .next (carryRestart r s.agent.nextId u) :=
    exec_carried hpass strap (beq_iff_eq.mpr hlen) fun h => absurd h (by decide)
  have store : u.store = s.store := State.entered_store _ p r
  have strapRead : u.strap = strap := State.entered_strap _ p r
  refine ⟨fun hbusy => ?_, fun hready => ?_⟩
  · rw [carried, carryRestart_busy (by rwa [store]), replyNow_eq kind]
    rfl
  · obtain rfl := hpass.arrived
    rw [carried, carryRestart_ready (by rwa [store]), acceptRestart_eq, store, strapRead, Agent.restarted,
      Agent.load_clear _ _ rfl, replyPayload, Request.codeByte_of_kind kind]
    rfl

/-! ### The blocks' events -/

/-- The oldest RESTART that still waits for an event is the one that has it marked (R194; log entry 11). -/
theorem markFirst_first {due : Restarting → Bool} {x : Restarting} (hx : due x = true) (mark : Restarting → Restarting)
    (rest : List Restarting) : ∀ {before : List Restarting}, (∀ y ∈ before, due y = false) →
      markFirst due mark (before ++ x :: rest) = some (before ++ mark x :: rest)
  | [], _ => if_pos hx
  | y :: before, h => by
    have later := markFirst_first hx mark rest (before := before) fun z hz => h z (List.mem_cons_of_mem _ hz)
    rw [List.cons_append, markFirst, later, h y List.mem_cons_self]
    rfl

/-- The command of a block's RESTART event, where one is owed. -/
theorem exec_restartEvent {s : State} {c : Instr} {due : Restarting → Bool} {mark : Restarting → Restarting}
    {act : State → State} {before rest : List Restarting} {x : Restarting} (hpow : s.powered = true)
    (hc : exec c s = .next (s.ifPowered (restartEvent due mark act))) (hs : s.agent.restarts = before ++ x :: rest)
    (hfirst : due x = true ∧ ∀ y ∈ before, due y = false) : exec c s
      = .next (act (s.withAgent { s.agent with restarts := before ++ mark x :: rest })) := by
  rw [hc, State.ifPowered_on hpow, restartEvent, hs, markFirst_first hfirst.1 mark rest hfirst.2]

/-- The egress side at its RESTART event: what does not survive is counted (R26). -/
theorem PortState.egressRestart_eq (y : PortState) : y.egressRestart = { y with
    transit := [], passover := 0
    reply := (y.reply.filter fun f => 0 < f.survives).map fun f => { f with survives := f.survives - 1 }
    transitDropDown := bumpBy y.transitDropDown y.transit.length
    replyLost := bumpBy y.replyLost (y.reply.filter fun f => f.survives = 0).length } := by
  have counted : y.reply.length - (y.reply.filter fun f => decide (0 < f.survives)).length
      = (y.reply.filter fun f => decide (f.survives = 0)).length := by
    have split := List.length_eq_length_filter_add (l := y.reply) fun f => decide (0 < f.survives)
    have dropped : (fun f : Reply => !decide (0 < f.survives)) = fun f => decide (f.survives = 0) :=
      funext fun f => by simp [Nat.pos_iff_ne_zero]
    rw [dropped] at split
    omega
  unfold PortState.egressRestart
  dsimp only
  rw [counted]

/-- A window disabled (R55). -/
def Resolver.disable (x : Resolver) (w : Nat) : Resolver := x.setWindow w { x.window w with enabled := false }

theorem Resolver.window_disable {x : Resolver} (h : Cells.Wf Window.atPor x.windows) (w u : Nat) :
    (x.disable w).window u = if u = w then { x.window u with enabled := false } else x.window u := by
  rw [Resolver.disable, Resolver.window_setWindow h]
  split
  · next hu => rw [hu]
  · rfl

/-- Windows disabled one after another (R55). -/
theorem Resolver.window_disableAll (ws : List Nat) (u : Nat) : ∀ {x : Resolver}, Cells.Wf Window.atPor x.windows →
    (ws.foldl Resolver.disable x).window u = if u ∈ ws then { x.window u with enabled := false } else x.window u := by
  induction ws with
  | nil => exact fun _ => (if_neg List.not_mem_nil).symm
  | cons w ws ih =>
    intro x h
    rw [List.foldl_cons, ih (x := x.disable w) (Cells.wf_write h _ _), Resolver.window_disable h]
    by_cases hu : u = w
    · simp [hu]
    · simp [hu]

/-- The windows at the Resolver's RESTART event (R55). -/
theorem Resolver.window_restart {x : Resolver} (h : Cells.Wf Window.atPor x.windows) {w : Nat} (hw : w ≤ 3) :
    x.restart.window w = { x.window w with enabled := false } := by
  refine (Resolver.window_disableAll [0, 1, 2, 3] w h).trans (if_pos ?_)
  simp only [List.mem_cons, List.not_mem_nil, or_false]
  omega

/-! ### The autostart -/

/-- Whether the autostart of a profile that names one arms the capture (R122, R194). -/
def Autoarms (s : State) : Prop :=
  s.agent.profile.autostart = true ∧ (s.capture.state = .idle ∨ s.capture.state = .stopped) ∧
    (s.capture.mode = .wrap ∨ s.capture.unread < 1022)

theorem autoArm_arms {s : State} (h : s.capture.armRefusal = none) : autoArm s = armCapture 0 s := by
  unfold autoArm
  rw [h]

theorem autoArm_refused {s : State} {c : ResultCode} (h : s.capture.armRefusal = some c) : autoArm s = s := by
  unfold autoArm
  rw [h]

theorem autostart_arms {s : State} (h : Autoarms s) : autostart s = armCapture 0 s := by
  obtain ⟨hnamed, hstill, hroom⟩ := h
  refine (if_pos hnamed).trans (autoArm_arms ?_)
  rw [Capture.armRefusal_still hstill, if_pos ((Capture.canWrite_iff _).mpr hroom)]

theorem autostart_still {s : State} (h : ¬ Autoarms s) : autostart s = s := by
  unfold autostart
  split
  · next hnamed =>
    by_cases hstill : s.capture.state = .idle ∨ s.capture.state = .stopped
    · have refused := Capture.armRefusal_still hstill
      rw [if_neg (mt (Capture.canWrite_iff _).mp fun hroom => h ⟨hnamed, hstill, hroom⟩)] at refused
      exact autoArm_refused refused
    · exact autoArm_refused (Capture.armRefusal_running hstill)
  · rfl

theorem autostartEvent_done {s : State} {rest : List Restarting} (h : s.agent.restarts = Restarting.done :: rest) :
    autostartEvent s = autostart (s.withAgent { s.agent with restarts := rest }) := by
  unfold autostartEvent
  rw [h]
  exact if_pos rfl

theorem stopCapture_still {s : State} (h : s.capture.state = .idle ∨ s.capture.state = .stopped) (reason : StopReason) :
    stopCapture reason s = s := by
  unfold stopCapture
  rcases h with h | h <;> rw [h]

/-- Settles O50: each block's event is that of the oldest RESTART that waits for it; the autostart ends the oldest. -/
theorem blocksRestart : Obligations.BlocksRestart := by
  intro s before x rest hpow hs marked first
  refine ⟨fun p h => ?egress, fun h => ?classifier, fun h hw => ?resolver, fun h => ?trigger, fun h hok hw => ?capture,
    fun h => ?timeBase, fun hfront hdone hok hw => ?autostart⟩
  case egress =>
    rw [exec_restartEvent hpow (c := .egressRestart p) rfl hs h]
    exact congrArg (fun f => Host.Outcome.next (State.onPort _ p f)) (funext PortState.egressRestart_eq)
  case classifier => exact exec_restartEvent hpow (c := .classifierRestart) rfl hs h
  case resolver =>
    exact ⟨s.resolver.restart, rfl, rfl, fun w hle => Resolver.window_restart hw hle,
      exec_restartEvent hpow (c := .resolverRestart) rfl hs h⟩
  case trigger => exact exec_restartEvent hpow (c := .triggerRestart) rfl hs h
  case capture =>
    intro t stopped
    have restarts := exec_restartEvent hpow (c := .captureRestart) rfl hs h
    refine ⟨fun hstill => ?_, fun hfull => ?_, fun harmed => ⟨_, Capture.write_written hw (hok.canWrite harmed) (stampNow s)
      (.stop .restart), ?_⟩⟩
    · rw [restarts, stopCapture_still (s := t) hstill]
    · rw [restarts, stopCapture_full (s := t) hfull, stopWith_eq]
      rfl
    · rw [restarts, stopCapture_armed (s := t) harmed, stopWith_eq]
      rfl
  case timeBase => exact exec_restartEvent hpow (c := .timeBaseRestart) rfl hs h
  case autostart =>
    intro t arms
    subst hfront
    subst hdone
    have ends : exec .autostart s = .next (autostart t) :=
      (congrArg Host.Outcome.next (State.ifPowered_on hpow autostartEvent)).trans
        (congrArg Host.Outcome.next (autostartEvent_done hs))
    refine ⟨fun hnot => ?_, fun harms => ?_⟩
    · rw [ends, autostart_still (s := t) hnot]
    · obtain ⟨-, -, hroom⟩ := id harms
      refine ⟨armCapture 0 t, armCapture_armedWith (s := t) hw hroom 0, ?_⟩
      rw [ends, autostart_arms (s := t) harms]

/-! ### Power -/

theorem elapseTime_atPor (took : Nat) : elapseTime took TimeBase.atPor = { TimeBase.atPor with
    linkTime := BitVec.ofNat 48 (took / 25), sub := took % 25 } := by
  unfold elapseTime TimeBase.atPor Config.bitsPerMicro
  dsimp only
  rw [Nat.zero_add, zero_add]
  rfl

/-- Settles O51: start-up from the persistent state of the store, which a loss of power keeps. -/
theorem powerOnAndPowerLoss : Obligations.PowerOnAndPowerLoss := by
  intro s guard strap took store load t
  have starts : startUp guard strap took s = t := by
    unfold startUp
    dsimp only
    rw [elapseTime_atPor, Agent.load_clear _ _ rfl]
    rfl
  have por : exec (.por guard strap took) s = .next (autostart t) := congrArg (fun u => Host.Outcome.next (autostart u)) starts
  have room : t.capture.unread < 1022 := Nat.zero_lt_succ 1021
  refine ⟨fun hnone => ?_, fun hnamed => ⟨armCapture 0 t, ?_, ?_⟩, powerOff s, rfl, rfl, rfl, ?_⟩
  · rw [por, autostart_still fun h => ?_]
    exact absurd (hnone.symm.trans h.1) (by decide)
  · exact armCapture_armedWith (s := t) Cells.wf_nil (.inr room) 0
  · rw [por, autostart_arms (s := t) ⟨hnamed, .inl rfl, .inr room⟩]
  · rfl

end Sys2Proof.Machine
end
